-- ==== Sys2Proof/Word.lean ====
section
/-! DEFINITION. The widths the block's data has (00_scope.md R4, R7; 10_state.md R30, R32). -/

namespace Sys2Proof

/-- A host data word and a command word: 32 bits (00_scope.md R5, R7). -/
abbrev Word := BitVec 32

/-- One channel of a colour, an unsigned 8-bit value (00_scope.md R4). -/
abbrev Byte := BitVec 8

/-- A palette colour `B << 16 | G << 8 | R`, 24 bits (10_state.md R30). -/
abbrev Colour := BitVec 24

/-- A byte offset `addr[24:0]` from the block's base (20_memory.md R60). -/
abbrev Offset := BitVec 25

end Sys2Proof
end

