-- ==== Sys2Proof/Syntax.lean ====
section
/-! DEFINITION. The commands of PQE-CMD 1, one constructor per row of the opcode table (30_encoding.md R91). -/

namespace Sys2Proof

/-- The five commands. A command has no operand fields: every operand is implicit (30_encoding.md R90, R94). -/
inductive Instr where
  /-- No processing; exercises the busy window (40_command_issue.md R116). -/
  | nop
  /-- Fill every block with the rounded mean of its colours (43_downsampler.md R175). -/
  | pixmean
  /-- Fill every block with its most frequent colour (43_downsampler.md R177). -/
  | pixmode
  /-- Map every pixel to its nearest palette colour (41_color_mapper.md R134). -/
  | qnear
  /-- The same mapping with Floyd-Steinberg error diffusion (42_ditherer.md R160). -/
  | qdith
  deriving DecidableEq, Repr

end Sys2Proof
end

