-- ==== Sys2Proof/WellFormed.lean ====
section
/-! DEFINITION. Which command words and which byte offsets are well formed (30_encoding.md R90, R96;
20_memory.md R60, R65). -/

namespace Sys2Proof

/-- Why a word is no command (30_encoding.md R96: both conditions give the one error ILLCMD). -/
inductive DecodeError where
  /-- A bit of `ZERO` = bits 31:4 is set. -/
  | reservedBits
  /-- `OP` = bits 3:0 is one of the reserved 0x5 to 0xF. -/
  | reservedOp
  deriving DecidableEq, Repr

/-- The field `OP` = bits 3:0 of a command word (30_encoding.md R90). -/
def opField (v : Word) : BitVec 4 := v.extractLsb' 0 4

/-- The field `ZERO` = bits 31:4 of a command word (30_encoding.md R90). -/
def zeroField (v : Word) : BitVec 28 := v.extractLsb' 4 28

/-- First check of R90: the reserved field is 0. -/
def reservedFieldClear (v : Word) : Bool := zeroField v == 0#28

/-- Second check of R90: the operation code is one of 0 to 4. -/
def opAssigned (v : Word) : Bool := opField v ≤ 4#4

/-- A valid command word (30_encoding.md R90: "valid when `v[31:4] = 0` and `v[3:0] ≤ 4`"). -/
def wellFormedWord (v : Word) : Bool := reservedFieldClear v && opAssigned v

/-- An instruction is well formed in every form: it has no operand that a check could refuse (R90). -/
def Instr.wellFormed : Instr → Bool
  | .nop => true
  | .pixmean => true
  | .pixmode => true
  | .qnear => true
  | .qdith => true

/-- The port has no `addr[1:0]`: an offset is well formed when it is a multiple of 4 (20_memory.md R60, R65). -/
def wellFormedOffset (a : Offset) : Bool := a.extractLsb' 0 2 == 0#2

end Sys2Proof
end

