-- ==== Sys2Proof/Decode.lean ====
section
/-! DEFINITION. The decoder of command words, total and rejecting by name, and the encoder
(30_encoding.md R90, R91, R95, R96). A command is the data word of a host write to CMD; there are no instruction bytes
in any memory (20_memory.md R64, R75). -/

namespace Sys2Proof

/-- The opcode map, from operation code to command (30_encoding.md R91); 0x5 to 0xF are reserved. -/
def commandOfOp (op : BitVec 4) : Option Instr :=
  match op.toNat with
  | 0 => some .nop
  | 1 => some .pixmean
  | 2 => some .pixmode
  | 3 => some .qnear
  | 4 => some .qdith
  | _ => none

/-- Decode a command word (30_encoding.md R90, R96). -/
def decode (v : Word) : Except DecodeError Instr :=
  if reservedFieldClear v then
    match commandOfOp (opField v) with
    | some i => .ok i
    | none => .error .reservedOp
  else .error .reservedBits

/-- The opcode map, from command to operation code (30_encoding.md R91). -/
def opOfCommand : Instr → BitVec 4
  | .nop => 0x0#4
  | .pixmean => 0x1#4
  | .pixmode => 0x2#4
  | .qnear => 0x3#4
  | .qdith => 0x4#4

/-- The command word: `ZERO` = 0 above `OP` (30_encoding.md R90). -/
def encode (i : Instr) : Word := 0#28 ++ opOfCommand i

/-- A row of the opcode table: the command, its `match` and its `mask` (30_encoding.md R95). -/
def opcodeTable : List (Instr × Word × Word) :=
  [ (.nop,     0x00000000#32, 0xFFFFFFFF#32),
    (.pixmean, 0x00000001#32, 0xFFFFFFFF#32),
    (.pixmode, 0x00000002#32, 0xFFFFFFFF#32),
    (.qnear,   0x00000003#32, 0xFFFFFFFF#32),
    (.qdith,   0x00000004#32, 0xFFFFFFFF#32) ]

/-- "A decoder written from the table alone": the first row whose match the word hits under its mask
(30_encoding.md R95). -/
def tableDecode (v : Word) : Option Instr :=
  (opcodeTable.find? (fun row => v &&& row.2.2 == row.2.1)).map Prod.fst

/-- The 32-bit word whose low `nbits` bits are those of `w` and whose other bits are 0. -/
def tableWord (nbits w : Nat) : Word := BitVec.ofNat 32 (w % 2 ^ nbits)

/-- The instruction the decoder reads from an instruction of the opcode table whose bits are `w`. A command is one
32-bit word (30_encoding.md R90), so bits at or above 32 belong to no command. -/
def decodeTableWord (nbits w : Nat) : Option Instr :=
  if w % 2 ^ nbits < 2 ^ 32 then (decode (tableWord nbits w)).toOption else none

end Sys2Proof
end

