-- ==== Sys2Proof/Config.lean ====
section
/-! DEFINITION. What an implementation fixes and what the spec leaves to a draw. Every constant here is opaque: a
claim holds for every value of it (92_eei_decisions.md "Open parameters"; 93_implementation_defined.md U1 to U4). -/

namespace Sys2Proof

/-- The frame capacity less one. The type gives the whole range the spec allows and nothing else
(00_scope.md R5: 1 ≤ MAXPIX ≤ 2^22). Assumption log 2. -/
opaque Config.maxPixLessOne : Fin 4194304

/-- `MAXPIX`, the capacity of the frame memory in pixels, the one open parameter (00_scope.md R5, R6). -/
def Config.maxPix : Nat := Config.maxPixLessOne.val + 1

/-- The byte that the `n`-th reset leaves at byte offset `a` of PAL or FRAME: a free value, an independent draw at
every reset (93_implementation_defined.md U2, U4; 70_reset_and_hazards.md R222). Assumption log 3. -/
opaque Config.resetByte : Nat → Nat → Byte

/-- The `n`-th draw `any32()`, the word that a host read of FRAME in the busy window returns: a free value
(20_memory.md R73 (d); 93_implementation_defined.md U3). Assumption log 4. -/
opaque Config.anyWord : Nat → Word

end Sys2Proof
end

