-- ==== Sys2Proof/Machine/State.lean ====
section
/-! DEFINITION. The state of the block (10_state.md R20), its reset value, the events that act on it and the outcomes a
step may have besides a next state. -/

namespace Sys2Proof.Machine

/-- The values of `STATUS.ERRCODE`; 6 to 15 are never produced (60_exceptions.md R191; 93_implementation_defined.md U9). -/
inductive ErrCode where
  /-- 0: no rejection recorded. -/
  | none
  /-- 1: the word written to CMD is no command (60_exceptions.md R192). -/
  | illCmd
  /-- 2: P = 0 (60_exceptions.md R193). -/
  | cfgBlock
  /-- 3: K outside 4 to 256 (60_exceptions.md R194). -/
  | cfgPal
  /-- 4: W = 0 or H = 0 (60_exceptions.md R195). -/
  | dim
  /-- 5: W * H > MAXPIX (60_exceptions.md R196). -/
  | dimCap
  deriving DecidableEq, Repr

/-- What the agents do: the statements of the host script (30_encoding.md R92, R98; 10_state.md R20). -/
inductive Event where
  /-- `WR`: the host transaction `MemWrite(addr, 4, v)`. -/
  | write (addr : Offset) (v : Word)
  /-- `RD`: the host transaction `MemRead(addr, 4)`. -/
  | read (addr : Offset)
  /-- `STEP`: the engine's turn to take its completion step (40_command_issue.md R114). -/
  | engine
  /-- `RESET`: the platform asserts reset (70_reset_and_hazards.md R220). -/
  | reset
  deriving DecidableEq, Repr

/-- An integer triple over the channels R, G, B: a colour vector, an effective colour, a residual or an entry of the
error accumulator (41_color_mapper.md R130; 42_ditherer.md R152). -/
structure Vec3 where
  r : Int
  g : Int
  b : Int
  deriving DecidableEq, Repr

/-- What a word offset of the port names (20_memory.md R60). -/
inductive Loc where
  | id | cmd | status | irqEn | width | height | block | palSize | cap
  /-- Palette entry `PAL[j]` (20_memory.md R62). -/
  | pal (j : Nat)
  /-- Frame entry `FRAME[i]`, i < MAXPIX (20_memory.md R61). -/
  | frame (i : Nat)
  /-- Every other offset (20_memory.md R63). -/
  | unmapped
  deriving DecidableEq, Repr

/-- PAL and FRAME: the bytes that have been written since the last reset, each with its byte offset, offsets strictly
rising. A byte that is not listed holds the value of the reset's draw (assumption log 3). -/
abbrev Memory := List Host.Cell

/-- The canonical form: byte offsets strictly rising, so that no offset is listed twice. An unlisted byte has no
listed value, so no entry can equal it (assumption log 3). -/
abbrev Memory.wf (m : Memory) : Prop := m.Pairwise (fun c d => c.1 < d.1)

/-- Nothing faults: every transaction completes, and no command fails after its acceptance (20_memory.md R60;
60_exceptions.md R203). The type has no constructor (assumption log 18). -/
inductive Fault where
  deriving DecidableEq, Repr

/-- Why a step has no next state. -/
inductive Refusal where
  /-- An instruction without a meaning; raised by no arm of this model. Safe. -/
  | notModelled (mnemonic : String)
  /-- A transaction at an offset that is no multiple of 4, which does not exist at the port: "a model takes `addr` as a
  multiple of 4 by type (or refuses any other value)" (20_memory.md R65; 93_implementation_defined.md U11). Raised by
  the step on a host read or write. Safe. Assumption log 8. -/
  | misalignedOffset
  deriving DecidableEq, Repr

/-- The state of the block (10_state.md R20), the port's read data, and the model's own schedule and draw counters. ID and
CMD store nothing (R21, R22), BUSY is `pend ≠ none` (R23, R34) and `irq` is a function of the state (R36). -/
structure State where
  /-- STATUS.DONE (10_state.md R23). -/
  done : Bool
  /-- STATUS.ERR (10_state.md R23). -/
  err : Bool
  /-- STATUS.OVR (10_state.md R23). -/
  ovr : Bool
  /-- STATUS.ERRCODE (10_state.md R23). -/
  errCode : ErrCode
  /-- IRQEN.IE_DONE (10_state.md R24). -/
  ieDone : Bool
  /-- IRQEN.IE_ERR (10_state.md R24). -/
  ieErr : Bool
  /-- IRQEN.IE_OVR (10_state.md R24). -/
  ieOvr : Bool
  /-- WIDTH.W (10_state.md R25). -/
  width : BitVec 16
  /-- HEIGHT.H (10_state.md R26). -/
  height : BitVec 16
  /-- BLOCK.P (10_state.md R27). -/
  block : BitVec 16
  /-- PALSIZE.K (10_state.md R28). -/
  palSize : BitVec 9
  /-- CAP, the constant MAXPIX (10_state.md R29; assumption log 2). -/
  cap : BitVec 23
  /-- PAL and FRAME (10_state.md R30, R31; assumption log 1). -/
  mem : Memory
  /-- PEND, the pending command (10_state.md R34). -/
  pend : Option Instr
  /-- ERR, the ditherer's accumulator in raster order (10_state.md R33; assumption log 9). -/
  ditherErr : List Vec3
  /-- The port's `rdata`: the word the latest host read returned (20_memory.md R60; assumption log 10). -/
  rdata : Word
  /-- The model's own: the schedule of events still to come (10_state.md R20; assumption log 5). -/
  script : List Event
  /-- The model's own: how many draws `any32()` have been made (20_memory.md R73; assumption log 4). -/
  draws : Nat
  /-- The model's own: how many resets have been taken since the first (70_reset_and_hazards.md R222; assumption log 3). -/
  resets : Nat
  deriving DecidableEq, Repr

/-- The machine right after reset: the reset table of 10_state.md and 70_reset_and_hazards.md R220. -/
def State.reset : State where
  done := false
  err := false
  ovr := false
  errCode := .none
  ieDone := false
  ieErr := false
  ieOvr := false
  width := 0#16
  height := 0#16
  block := 8#16
  palSize := 8#9
  cap := BitVec.ofNat 23 Config.maxPix
  mem := []
  pend := none
  ditherErr := []
  rdata := 0#32
  script := []
  draws := 0
  resets := 0

/-- What the event now due asks of the machine. -/
inductive Due where
  /-- The command `i`: its command write, or its completion. -/
  | run (i : Instr)
  /-- No command is concerned; the event leaves the state `t`. -/
  | settle (t : State)
  /-- The event does not exist at the port. -/
  | refuse (r : Refusal)
  deriving Repr

end Sys2Proof.Machine
end

