-- ==== Sys2Proof/Machine/Arith.lean ====
section
/-! DEFINITION. The arithmetic helpers of 00_scope.md R8 and the colour-vector arithmetic, all exact on integers. -/

namespace Sys2Proof.Machine

/-- Floor division, for b > 0 (00_scope.md R8): Lean's `/` on integers is the floor for a positive divisor. -/
def fdiv (a b : Int) : Int := a / b

/-- The ceiling of a / b, for b > 0 (00_scope.md R8: `fdiv(a + b - 1, b)`). -/
def cdiv (a b : Nat) : Nat := (a + b - 1) / b

/-- a / b rounded to the nearest integer, ties toward plus infinity, for b > 0 (00_scope.md R8). -/
def rhuDiv (a b : Int) : Int := fdiv (2 * a + b) (2 * b)

/-- Sixteenths rounded to whole steps (00_scope.md R8: `rhu16(e) = rhu_div(e, 16) = fdiv(e + 8, 16)`). -/
def rhu16 (e : Int) : Int := fdiv (e + 8) 16

/-- `square(a) = a*a` (00_scope.md R8). -/
def square (a : Int) : Int := a * a

/-- The channel `R` of a pixel or palette word, bits 7:0 (00_scope.md R9). -/
def redOf (q : Colour) : Byte := q.extractLsb' 0 8

/-- The channel `G`, bits 15:8 (00_scope.md R9). -/
def greenOf (q : Colour) : Byte := q.extractLsb' 8 8

/-- The channel `B`, bits 23:16 (00_scope.md R9). -/
def blueOf (q : Colour) : Byte := q.extractLsb' 16 8

/-- `rgb(p) = p[23:0]` (00_scope.md R9). -/
def rgbOf (p : Word) : Colour := p.extractLsb' 0 24

/-- `A(p) = p[31:24]` (00_scope.md R9). -/
def alphaOf (p : Word) : Byte := p.extractLsb' 24 8

/-- A colour from its channels, `B << 16 | G << 8 | R` (10_state.md R30). -/
def colourOf (r g b : Byte) : Colour := b ++ g ++ r

/-- `pack(R(q), G(q), B(q), A(p))`: the colour `q` with the alpha byte of the pixel word `p`, which every command keeps
(00_scope.md R9; 10_state.md R32; 20_memory.md R68). -/
def emit (q : Colour) (p : Word) : Word := alphaOf p ++ q

/-- The colour vector of a colour, each component in 0 to 255 (41_color_mapper.md R130). -/
def vecOf (q : Colour) : Vec3 where
  r := (redOf q).toNat
  g := (greenOf q).toNat
  b := (blueOf q).toNat

/-- The zero vector: what every accumulator entry holds when a QDITH starts (42_ditherer.md R152). -/
def Vec3.zero : Vec3 where
  r := 0
  g := 0
  b := 0

/-- Channel by channel sum (42_ditherer.md R151: the lanes are independent). -/
def Vec3.add (u v : Vec3) : Vec3 where
  r := u.r + v.r
  g := u.g + v.g
  b := u.b + v.b

/-- Channel by channel difference (42_ditherer.md R157). -/
def Vec3.sub (u v : Vec3) : Vec3 where
  r := u.r - v.r
  g := u.g - v.g
  b := u.b - v.b

/-- Every channel multiplied by a kernel weight (42_ditherer.md R158). -/
def Vec3.smul (w : Int) (v : Vec3) : Vec3 where
  r := w * v.r
  g := w * v.g
  b := w * v.b

/-- Every channel rounded from sixteenths (42_ditherer.md R154). -/
def Vec3.round16 (v : Vec3) : Vec3 where
  r := rhu16 v.r
  g := rhu16 v.g
  b := rhu16 v.b

end Sys2Proof.Machine
end

