-- ==== Sys2Proof/Machine/Flags.lean ====
section
/-! DEFINITION. The status and interrupt-enable words, the flag updates and the interrupt output (10_state.md R23, R24,
R36). -/

namespace Sys2Proof.Machine

/-- The numeric value of an error code (60_exceptions.md R191). -/
def ErrCode.bits : ErrCode → BitVec 4
  | .none => 0#4
  | .illCmd => 1#4
  | .cfgBlock => 2#4
  | .cfgPal => 3#4
  | .dim => 4#4
  | .dimCap => 5#4

/-- STATUS.BUSY: "equals `PEND != none`" (10_state.md R23, R34). -/
def State.busy (s : State) : Bool := s.pend.isSome

/-- What a read of STATUS returns: `ERRCODE << 8 | OVR << 3 | ERR << 2 | DONE << 1 | BUSY` (10_state.md R23). -/
def State.statusWord (s : State) : Word :=
  0#20 ++ s.errCode.bits ++ 0#4 ++ BitVec.ofBool s.ovr ++ BitVec.ofBool s.err ++ BitVec.ofBool s.done
    ++ BitVec.ofBool s.busy

/-- What a read of IRQEN returns: `IE_OVR << 3 | IE_ERR << 2 | IE_DONE << 1` (10_state.md R24). -/
def State.irqEnWord (s : State) : Word :=
  0#28 ++ BitVec.ofBool s.ieOvr ++ BitVec.ofBool s.ieErr ++ BitVec.ofBool s.ieDone ++ 0#1

/-- The level output `irq`, a pure function of the state (10_state.md R36; 60_exceptions.md R200, R201). -/
def State.irq (s : State) : Bool := (s.done && s.ieDone) || (s.err && s.ieErr) || (s.ovr && s.ieOvr)

/-- A write of `v` to STATUS: write one to clear for DONE, ERR (with ERRCODE) and OVR; every other bit is ignored
(10_state.md R23). It is also the return from a rejection: clearing ERR clears ERRCODE (60_exceptions.md R204). -/
def State.clearFlags (v : Word) (s : State) : State :=
  { s with
    done := s.done && !v.getLsbD 1
    err := s.err && !v.getLsbD 2
    errCode := if v.getLsbD 2 then .none else s.errCode
    ovr := s.ovr && !v.getLsbD 3 }

/-- A write of `v` to IRQEN stores `v[3:1]` (10_state.md R24). -/
def State.setIrqEn (v : Word) (s : State) : State :=
  { s with ieDone := v.getLsbD 1, ieErr := v.getLsbD 2, ieOvr := v.getLsbD 3 }

end Sys2Proof.Machine
end

