-- ==== Sys2Proof/Machine/Operands.lean ====
section
/-! DEFINITION. The implicit operands of the processing commands: dimensions, block side, palette and bitmap
(30_encoding.md R94), read from and written to PAL and FRAME (10_state.md R30 to R32; 20_memory.md R61, R62, R68,
R69). -/

namespace Sys2Proof.Machine

/-- `W` (00_scope.md R9; 10_state.md R25): the field at its stored value, with no extension (30_encoding.md R94). -/
def State.imgW (s : State) : Nat := s.width.toNat

/-- `H` (00_scope.md R9; 10_state.md R26). -/
def State.imgH (s : State) : Nat := s.height.toNat

/-- `P` (00_scope.md R9; 10_state.md R27). -/
def State.blockP (s : State) : Nat := s.block.toNat

/-- `K` (00_scope.md R9; 10_state.md R28). -/
def State.palK (s : State) : Nat := s.palSize.toNat

/-- `MAXPIX`, as CAP holds it (10_state.md R29). -/
def State.maxPix (s : State) : Nat := s.cap.toNat

/-- Byte offset of `PAL[0]` (20_memory.md R60, R62). -/
def palBase : Nat := 0x400

/-- Byte offset of `FRAME[0]` (20_memory.md R60, R61). -/
def frameBase : Nat := 0x1000000

/-- Byte offset of palette colour `j` (20_memory.md R69). -/
def palOffset (j : Nat) : Nat := palBase + 4 * j

/-- Byte offset of pixel index `i` (20_memory.md R69). -/
def frameOffset (i : Nat) : Nat := frameBase + 4 * i

/-- Whether byte offset `a` has storage in a block of capacity `maxPix`: the three channel bytes of a palette entry
(bits 31:24 are not stored, 10_state.md R30), or a byte of a FRAME entry below MAXPIX (20_memory.md R60 to R62). -/
def holdsByte (maxPix a : Nat) : Bool :=
  (decide (palBase ≤ a) && decide (a < palBase + 4 * 256) && decide ((a - palBase) % 4 ≠ 3))
    || (decide (frameBase ≤ a) && decide (a < frameBase + 4 * maxPix))

/-- The byte listed at offset `a`, if one has been written since the last reset. -/
def Memory.lookup (m : Memory) (a : Nat) : Option Byte :=
  match m with
  | [] => none
  | (k, b) :: rest => if k = a then some b else Memory.lookup rest a

/-- Write byte `b` at offset `a`, keeping the offsets strictly rising. -/
def Memory.insert (m : Memory) (a : Nat) (b : Byte) : Memory :=
  match m with
  | [] => [(a, b)]
  | (k, c) :: rest =>
    if a < k then (a, b) :: (k, c) :: rest
    else if a = k then (a, b) :: rest
    else (k, c) :: Memory.insert rest a b

/-- What a byte reads as when it is not listed: storage holds the draw of the last reset, the same at every read
(93_implementation_defined.md U2), and everything else reads 0 (20_memory.md R62, R63). -/
def State.unlistedByte (s : State) (a : Nat) : Byte :=
  if holdsByte s.maxPix a then Config.resetByte s.resets a else 0#8

/-- The byte at byte offset `a` of PAL and FRAME. The channel bytes R, G, B, A of a word stand at rising offsets
(20_memory.md R64; assumption log 1). -/
def State.byteAt (s : State) (a : Nat) : Byte :=
  match s.mem.lookup a with
  | some b => b
  | none => s.unlistedByte a

/-- The 24-bit colour `PAL[j]` (10_state.md R30). -/
def State.palEntry (s : State) (j : Nat) : Colour :=
  colourOf (s.byteAt (palOffset j)) (s.byteAt (palOffset j + 1)) (s.byteAt (palOffset j + 2))

/-- The pixel word `FRAME[i]` (10_state.md R31, R32). -/
def State.pixel (s : State) (i : Nat) : Word :=
  s.byteAt (frameOffset i + 3) ++
    colourOf (s.byteAt (frameOffset i)) (s.byteAt (frameOffset i + 1)) (s.byteAt (frameOffset i + 2))

/-- Store the three channel bytes of colour `q` from offset `a` on. -/
def Memory.storeColour (m : Memory) (a : Nat) (q : Colour) : Memory :=
  ((m.insert a (redOf q)).insert (a + 1) (greenOf q)).insert (a + 2) (blueOf q)

/-- Store the four channel bytes of pixel word `p` from offset `a` on. -/
def Memory.storePixel (m : Memory) (a : Nat) (p : Word) : Memory :=
  (m.storeColour a (rgbOf p)).insert (a + 3) (alphaOf p)

/-- `PAL[j] <- q`, for 0 ≤ j < 256 (20_memory.md R62); there is no other entry. -/
def State.setPalEntry (j : Nat) (q : Colour) (s : State) : State :=
  { s with mem := if j < 256 then s.mem.storeColour (palOffset j) q else s.mem }

/-- `FRAME[i] <- p`, all 32 bits, for 0 ≤ i < MAXPIX (20_memory.md R61, R68); there is no other entry
(assumption log 16). -/
def State.setPixel (i : Nat) (p : Word) (s : State) : State :=
  { s with mem := if i < s.maxPix then s.mem.storePixel (frameOffset i) p else s.mem }

/-- The index of pixel (x, y): `y*W + x` (10_state.md R32; 20_memory.md R69). -/
def State.pixelIndex (s : State) (x y : Nat) : Nat := y * s.imgW + x

/-- `px(x, y)` (00_scope.md R9). -/
def State.px (s : State) (x y : Nat) : Word := s.pixel (s.pixelIndex x y)

/-- The colour vector of palette entry `j` (41_color_mapper.md R130). -/
def State.palVec (s : State) (j : Nat) : Vec3 := vecOf (s.palEntry j)

/-- The colour vector of pixel `i`; the alpha byte is no part of it (41_color_mapper.md R130). -/
def State.pixelVec (s : State) (i : Nat) : Vec3 := vecOf (rgbOf (s.pixel i))

/-- Rewrite the colour of pixel `i` with `q`, its own alpha kept (20_memory.md R68; 10_state.md R32). -/
def State.recolour (q : Colour) (i : Nat) (s : State) : State := s.setPixel i (emit q (s.pixel i))

end Sys2Proof.Machine
end

