-- ==== Sys2Proof/Machine/Ops.lean ====
section
/-! DEFINITION. The operations that the commands and the host share: validation, acceptance, rejection (the block's
taking of an exception), the drop in the busy window, completion, and moving on in the schedule (40_command_issue.md
R110 to R114; 60_exceptions.md R198, R199, R210). -/

namespace Sys2Proof.Machine

/-- `validate()`: the first error that applies, in the order of the tests, or `none`; the same for all four processing
commands, and W * H computed exactly (40_command_issue.md R111; 60_exceptions.md R193 to R196, R198). -/
def State.validate (s : State) : ErrCode :=
  if s.blockP = 0 then .cfgBlock
  else if s.palK < 4 ∨ 256 < s.palK then .cfgPal
  else if s.imgW = 0 ∨ s.imgH = 0 then .dim
  else if s.maxPix < s.imgW * s.imgH then .dimCap
  else .none

/-- `accept(op)`: DONE is cleared and the command is pending; nothing else changes (40_command_issue.md R112). -/
def State.accept (i : Instr) (s : State) : State := { s with done := false, pend := some i }

/-- `raise Reject(code)`: TAKING AN EXCEPTION. ERR is set, ERRCODE holds the code, and nothing else changes; there is no
handler, vector or mode (40_command_issue.md R113; 60_exceptions.md R199, R205). The return from it is
`State.clearFlags` (60_exceptions.md R204). -/
def State.reject (c : ErrCode) (s : State) : State := { s with err := true, errCode := c }

/-- A host write dropped in the busy window: OVR is set and nothing else changes (20_memory.md R73 (a);
60_exceptions.md R210). -/
def State.dropWrite (s : State) : State := { s with ovr := true }

/-- The part of the completion step that every command has: PEND becomes none and DONE is set
(40_command_issue.md R114). -/
def State.complete (s : State) : State := { s with pend := none, done := true }

/-- Whether the command is checked against the configuration: every command but NOP (40_command_issue.md R110). -/
def validated : Instr → Bool
  | .nop => false
  | .pixmean => true
  | .pixmode => true
  | .qnear => true
  | .qdith => true

/-- The command write of a valid command word: dropped in the busy window, else rejected with the first error that
`validate()` finds, else accepted (40_command_issue.md R110). -/
def State.issue (i : Instr) (s : State) : State :=
  if s.busy then s.dropWrite
  else if validated i && s.validate != .none then s.reject s.validate
  else s.accept i

/-- The command write of a word that is no command: dropped in the busy window, else rejected with ILLCMD
(30_encoding.md R96; 40_command_issue.md R110). -/
def State.issueIllegal (s : State) : State :=
  if s.busy then s.dropWrite else s.reject .illCmd

/-- Whether the event now due is the engine's: the schedule says so, or it holds nothing more, and then the engine's
step is the only one left to take (40_command_issue.md R115; assumption log 6). -/
def State.engineDue (s : State) : Bool :=
  match s.script with
  | [] => true
  | .engine :: _ => true
  | .write _ _ :: _ => false
  | .read _ :: _ => false
  | .reset :: _ => false

/-- Whether the event now due is the completion of the command `i`: the engine's turn with `i` pending
(40_command_issue.md R114: "enabled exactly when `PEND != none`"). -/
def State.completionDue (i : Instr) (s : State) : Bool := s.engineDue && decide (s.pend = some i)

/-- The two events of a command whose processing is `f`: at its completion the processing and then PEND and DONE, all
in one atomic step; at any other time its command write (40_command_issue.md R110, R114; assumption log 12). -/
def runCommand (i : Instr) (f : State → State) (s : State) : Host.Outcome State Fault Refusal :=
  .next (if s.completionDue i then (f s).complete else s.issue i)

/-- The event now due has happened: the schedule moves on. -/
def State.advance (s : State) : State := { s with script := s.script.tail }

/-- An outcome after which the schedule moves on. -/
def advanceOutcome (o : Host.Outcome State Fault Refusal) : Host.Outcome State Fault Refusal :=
  match o with
  | .next t => .next t.advance
  | .fault r => .fault r
  | .refused r => .refused r

/-- The reset event: every register at its reset value, a pending command abandoned without DONE, PAL and FRAME drawn
anew (70_reset_and_hazards.md R220 to R222). CAP is a constant of the instance (10_state.md R29); the schedule and the
counters are the model's own, and the port keeps its last read data (assumption log 10). -/
def State.resetEvent (s : State) : State :=
  { State.reset with
    cap := s.cap
    rdata := s.rdata
    script := s.script
    draws := s.draws
    resets := s.resets + 1 }

end Sys2Proof.Machine
end

