-- ==== Sys2Proof/Machine/Command.lean ====
section
/-! DEFINITION. The command NOP (40_command_issue.md R116). -/

namespace Sys2Proof.Machine

/-- `NOP`: accepted with any configuration; at completion nothing but PEND and DONE changes (40_command_issue.md
R116). -/
def execNop (s : State) : Host.Outcome State Fault Refusal := runCommand .nop id s

end Sys2Proof.Machine
end

