-- ==== Sys2Proof/Machine/Mapper.lean ====
section
/-! DEFINITION. The palette-indexed colour mapper: distance, nearest entry, and the command QNEAR (41_color_mapper.md
R130 to R135). -/

namespace Sys2Proof.Machine

/-- Squared Euclidean distance over R, G, B, exact (41_color_mapper.md R131). -/
def colourDist (a b : Vec3) : Int := square (a.r - b.r) + square (a.g - b.g) + square (a.b - b.b)

/-- One comparison of the nearest-entry search: only a strictly smaller distance replaces the best so far, so an equal
one never replaces an earlier index (41_color_mapper.md R132). -/
def State.closer (c : Vec3) (s : State) (best : Nat × Int) (j : Nat) : Nat × Int :=
  let d := colourDist c (s.palVec j)
  if d < best.2 then (j, d) else best

/-- `nearest(c)`: the least index in 0 to K-1 whose distance to `c` is minimal (41_color_mapper.md R132). -/
def State.nearest (c : Vec3) (s : State) : Nat :=
  ((List.range' 1 (s.palK - 1)).foldl (s.closer c) (0, colourDist c (s.palVec 0))).1

/-- One iteration of QNEAR: pixel `i` takes its nearest palette colour, alpha kept (41_color_mapper.md R134). -/
def State.qnearPixel (s : State) (i : Nat) : State :=
  s.recolour (s.palEntry (s.nearest (s.pixelVec i))) i

/-- `qnear(FRAME, W, H, PAL, K)`: every pixel, in index order; the order is free and unobservable (41_color_mapper.md
R134, R138; assumption log 15). -/
def State.qnear (s : State) : State := (List.range (s.imgW * s.imgH)).foldl State.qnearPixel s

/-- `QNEAR` (41_color_mapper.md R134; 40_command_issue.md R110, R114). -/
def execQnear (s : State) : Host.Outcome State Fault Refusal := runCommand .qnear State.qnear s

end Sys2Proof.Machine
end

