-- ==== Sys2Proof/Machine/Ditherer.lean ====
section
/-! DEFINITION. The error-diffusion ditherer and the command QDITH (42_ditherer.md R150 to R163). -/

namespace Sys2Proof.Machine

/-- `ERR[y][x]`, the accumulator of pixel (x, y), at its raster index (42_ditherer.md R152). -/
def State.errAt (x y : Nat) (s : State) : Vec3 := s.ditherErr.getD (s.pixelIndex x y) Vec3.zero

/-- All W*H*3 accumulators are set to 0 at the start of every QDITH (42_ditherer.md R152, R160). -/
def State.zeroErr (s : State) : State := { s with ditherErr := List.replicate (s.imgW * s.imgH) Vec3.zero }

/-- `ERR[y][x] <- ERR[y][x] + w*res`, all channels, if the neighbour (x, y) lies inside the image; a share whose target
lies outside is dropped (42_ditherer.md R158, R159). -/
def State.addErr (inside : Bool) (x y : Nat) (w : Int) (res : Vec3) (s : State) : State :=
  { s with
    ditherErr :=
      if inside then s.ditherErr.modify (s.pixelIndex x y) (fun e => e.add (res.smul w)) else s.ditherErr }

/-- The effective colour of pixel (x, y): true colour plus accumulated error rounded once, not clamped
(42_ditherer.md R154). -/
def State.effective (x y : Nat) (s : State) : Vec3 :=
  (s.pixelVec (s.pixelIndex x y)).add (s.errAt x y).round16

/-- Diffusion of the residual of pixel (x, y) to right 7, below-left 3, below 5, below-right 1, each only inside the
image (42_ditherer.md R158, R159). -/
def State.diffuse (x y : Nat) (res : Vec3) (s : State) : State :=
  (((s.addErr (decide (x + 1 < s.imgW)) (x + 1) y 7 res).addErr
    (decide (1 ≤ x ∧ y + 1 < s.imgH)) (x - 1) (y + 1) 3 res).addErr
    (decide (y + 1 < s.imgH)) x (y + 1) 5 res).addErr
    (decide (x + 1 < s.imgW ∧ y + 1 < s.imgH)) (x + 1) (y + 1) 1 res

/-- The visit of pixel (x, y): effective colour, nearest entry, emission, residual, diffusion (42_ditherer.md R154 to
R160). -/
def State.qdithPixel (s : State) (x y : Nat) : State :=
  let eff := s.effective x y
  let q := s.palEntry (s.nearest eff)
  (s.recolour q (s.pixelIndex x y)).diffuse x y (eff.sub (vecOf q))

/-- `qdith(FRAME, W, H, PAL, K)`: the accumulators zeroed, then every pixel in raster order, which is architectural
(42_ditherer.md R153, R160, R163). -/
def State.qdith (s : State) : State :=
  (List.range s.imgH).foldl (fun t y => (List.range s.imgW).foldl (fun u x => u.qdithPixel x y) t) s.zeroErr

/-- `QDITH` (42_ditherer.md R160; 40_command_issue.md R110, R114). -/
def execQdith (s : State) : Host.Outcome State Fault Refusal := runCommand .qdith State.qdith s

end Sys2Proof.Machine
end

