-- ==== Sys2Proof/Machine/Downsampler.lean ====
section
/-! DEFINITION. The block-downsampler: partition into blocks, the mean and the mode aggregator, and the commands PIXMEAN
and PIXMODE (43_downsampler.md R170 to R181). -/

namespace Sys2Proof.Machine

/-- `NBX = cdiv(W, P)`: the number of columns of blocks (43_downsampler.md R170). -/
def State.nbx (s : State) : Nat := cdiv s.imgW s.blockP

/-- `NBY = cdiv(H, P)`: the number of rows of blocks (43_downsampler.md R170). -/
def State.nby (s : State) : Nat := cdiv s.imgH s.blockP

/-- The coordinates `k*P` to `min(k*P + P, limit) - 1` of block `k` along one axis, a boundary block truncated
(43_downsampler.md R170). -/
def blockSpan (k side limit : Nat) : List Nat := List.range' (k * side) (min (k * side + side) limit - k * side)

/-- The pixel indices of block (bx, by), in the block's own raster order (43_downsampler.md R170, R176). -/
def State.blockIndices (bx bY : Nat) (s : State) : List Nat :=
  (blockSpan bY s.blockP s.imgH).flatMap fun y =>
    (blockSpan bx s.blockP s.imgW).map fun x => s.pixelIndex x y

/-- The colours of the pixels listed, in that order; alpha excluded (43_downsampler.md R176). -/
def State.coloursAt (idx : List Nat) (s : State) : List Colour := idx.map fun i => rgbOf (s.pixel i)

/-- The exact sum of one channel over a list of colours (43_downsampler.md R172). -/
def channelSum (c : Colour → Byte) (l : List Colour) : Nat := (l.map fun q => (c q).toNat).sum

/-- The rounded mean of one channel: one exact sum, one rounding, half up (43_downsampler.md R172, R173). -/
def channelMean (c : Colour → Byte) (l : List Colour) : Byte :=
  BitVec.ofInt 8 (rhuDiv (channelSum c l) l.length)

/-- The mean colour of a block, each channel separately (43_downsampler.md R172). -/
def meanColour (l : List Colour) : Colour :=
  colourOf (channelMean redOf l) (channelMean greenOf l) (channelMean blueOf l)

/-- The mode of a block's colours: the most frequent whole triple, and among equally frequent ones the first in the
block's raster order, since only a strictly greater count replaces an earlier colour (43_downsampler.md R176). -/
def modeColour (l : List Colour) : Colour :=
  l.foldl (fun best v => if l.count best < l.count v then v else best) (l.headD 0#24)

/-- Fill the pixels listed with one colour, each pixel's alpha kept (43_downsampler.md R175, R177, R178). -/
def State.fill (q : Colour) (idx : List Nat) (s : State) : State :=
  idx.foldl (fun t i => t.recolour q i) s

/-- One block of a downsampling command with representative colour `rep`: every read of the block comes before its
writes (43_downsampler.md R175, R177, R180). -/
def State.aggregateBlock (rep : List Colour → Colour) (bx bY : Nat) (s : State) : State :=
  s.fill (rep (s.coloursAt (s.blockIndices bx bY))) (s.blockIndices bx bY)

/-- Every block, by rows; the order is free and unobservable (43_downsampler.md R175, R177, R180; 60_exceptions.md
R208; assumption log 15). -/
def State.aggregate (rep : List Colour → Colour) (s : State) : State :=
  (List.range s.nby).foldl (fun t bY => (List.range s.nbx).foldl (fun u bx => u.aggregateBlock rep bx bY) t) s

/-- `pixmean(FRAME, W, H, P)` (43_downsampler.md R175). -/
def State.pixmean (s : State) : State := s.aggregate meanColour

/-- `pixmode(FRAME, W, H, P)` (43_downsampler.md R177). -/
def State.pixmode (s : State) : State := s.aggregate modeColour

/-- `PIXMEAN` (43_downsampler.md R175; 40_command_issue.md R110, R114). -/
def execPixmean (s : State) : Host.Outcome State Fault Refusal := runCommand .pixmean State.pixmean s

/-- `PIXMODE` (43_downsampler.md R177; 40_command_issue.md R110, R114). -/
def execPixmode (s : State) : Host.Outcome State Fault Refusal := runCommand .pixmode State.pixmode s

end Sys2Proof.Machine
end

