-- ==== Sys2Proof/Machine/Dispatch.lean ====
section
/-! DEFINITION. One arm per command of the opcode table (30_encoding.md R91). -/

namespace Sys2Proof.Machine

def exec (i : Instr) (s : State) : Host.Outcome State Fault Refusal :=
  match i with
  | .nop => Sys2Proof.Machine.execNop s
  | .pixmean => Sys2Proof.Machine.execPixmean s
  | .pixmode => Sys2Proof.Machine.execPixmode s
  | .qnear => Sys2Proof.Machine.execQnear s
  | .qdith => Sys2Proof.Machine.execQdith s

end Sys2Proof.Machine
end

