-- ==== Sys2Proof/Machine/Port.lean ====
section
/-! DEFINITION. The host port: the address map, host reads and writes with the busy-window rules, and what the event now
due asks for (20_memory.md R60 to R66, R73; 10_state.md R21 to R31, R37). -/

namespace Sys2Proof.Machine

/-- The constant that a read of ID returns (10_state.md R21). -/
def idWord : Word := 0x50514501#32

/-- The address map of 20_memory.md R60 for a block of capacity `maxPix`: what byte offset `a` names. -/
def locateOffset (maxPix a : Nat) : Loc :=
  if a = 0x00 then .id
  else if a = 0x04 then .cmd
  else if a = 0x08 then .status
  else if a = 0x0C then .irqEn
  else if a = 0x10 then .width
  else if a = 0x14 then .height
  else if a = 0x18 then .block
  else if a = 0x1C then .palSize
  else if a = 0x20 then .cap
  else if palBase ≤ a ∧ a < palBase + 4 * 256 then .pal ((a - palBase) / 4)
  else if frameBase ≤ a ∧ a < frameBase + 4 * maxPix then .frame ((a - frameBase) / 4)
  else .unmapped

/-- The location that a byte offset of the port names in this state. -/
def State.locate (s : State) (addr : Offset) : Loc := locateOffset s.maxPix addr.toNat

/-- What a location holds, as a read outside the busy window returns it (10_state.md R21 to R31; 20_memory.md R61 to
R63). -/
def State.readValue (s : State) : Loc → Word
  | .id => idWord
  | .cmd => 0#32
  | .status => s.statusWord
  | .irqEn => s.irqEnWord
  | .width => s.width.setWidth 32
  | .height => s.height.setWidth 32
  | .block => s.block.setWidth 32
  | .palSize => s.palSize.setWidth 32
  | .cap => s.cap.setWidth 32
  | .pal j => (s.palEntry j).setWidth 32
  | .frame i => s.pixel i
  | .unmapped => 0#32

/-- A fresh draw `any32()` on the port's read data (20_memory.md R73 (d); assumption log 4). -/
def State.readDraw (s : State) : State := { s with rdata := Config.anyWord s.draws, draws := s.draws + 1 }

/-- A read returns `v` and changes nothing of the block (20_memory.md R66). -/
def State.readReturns (v : Word) (s : State) : State := { s with rdata := v }

/-- A host read: in the busy window a FRAME entry reads as a fresh draw and everything else normally
(20_memory.md R66, R73 (d), (e)). -/
def State.hostRead (l : Loc) (s : State) : State :=
  match l with
  | .frame i => if s.busy then s.readDraw else s.readReturns (s.readValue (.frame i))
  | .id => s.readReturns (s.readValue .id)
  | .cmd => s.readReturns (s.readValue .cmd)
  | .status => s.readReturns (s.readValue .status)
  | .irqEn => s.readReturns (s.readValue .irqEn)
  | .width => s.readReturns (s.readValue .width)
  | .height => s.readReturns (s.readValue .height)
  | .block => s.readReturns (s.readValue .block)
  | .palSize => s.readReturns (s.readValue .palSize)
  | .cap => s.readReturns (s.readValue .cap)
  | .pal j => s.readReturns (s.readValue (.pal j))
  | .unmapped => s.readReturns (s.readValue .unmapped)

/-- A write of `v` to WIDTH stores `v[15:0]` (10_state.md R25). -/
def State.setWidthReg (v : Word) (s : State) : State := { s with width := v.extractLsb' 0 16 }

/-- A write of `v` to HEIGHT stores `v[15:0]` (10_state.md R26). -/
def State.setHeightReg (v : Word) (s : State) : State := { s with height := v.extractLsb' 0 16 }

/-- A write of `v` to BLOCK stores `v[15:0]` (10_state.md R27). -/
def State.setBlockReg (v : Word) (s : State) : State := { s with block := v.extractLsb' 0 16 }

/-- A write of `v` to PALSIZE stores `v[8:0]` (10_state.md R28). -/
def State.setPalSizeReg (v : Word) (s : State) : State := { s with palSize := v.extractLsb' 0 9 }

/-- A host write to a location other than CMD. In the busy window a write to an operand register, a PAL entry or a FRAME
entry is dropped; STATUS and IRQEN are always written; ID, CAP and unmapped offsets ignore the write and never set OVR
(20_memory.md R61 to R63, R73 (a) to (c); 10_state.md R37). CMD stores nothing (10_state.md R22): its write is a
command, which `State.due` hands to the command's meaning. -/
def State.hostWrite (l : Loc) (v : Word) (s : State) : State :=
  match l with
  | .status => s.clearFlags v
  | .irqEn => s.setIrqEn v
  | .width => if s.busy then s.dropWrite else s.setWidthReg v
  | .height => if s.busy then s.dropWrite else s.setHeightReg v
  | .block => if s.busy then s.dropWrite else s.setBlockReg v
  | .palSize => if s.busy then s.dropWrite else s.setPalSizeReg v
  | .pal j => if s.busy then s.dropWrite else s.setPalEntry j (rgbOf v)
  | .frame i => if s.busy then s.dropWrite else s.setPixel i v
  | .id => s
  | .cap => s
  | .unmapped => s
  | .cmd => s

/-- What a write of `v` to location `l` asks for: a word written to CMD is decoded there and nowhere else, and names a
command or is illegal (10_state.md R22; 40_command_issue.md R110; 20_memory.md R75). -/
def State.writeDue (l : Loc) (v : Word) (s : State) : Due :=
  if l = .cmd then
    match decode v with
    | .ok i => .run i
    | .error _ => .settle s.issueIllegal
  else .settle (s.hostWrite l v)

/-- What the event now due asks of the machine. The engine's turn runs the pending command's completion; with nothing
pending it has no step (40_command_issue.md R114; 70_reset_and_hazards.md R223; assumption log 7). An offset that is
no multiple of 4 does not exist at the port (20_memory.md R65). -/
def State.due (s : State) : Due :=
  match s.script with
  | .write a v :: _ =>
    if wellFormedOffset a then s.writeDue (s.locate a) v else .refuse .misalignedOffset
  | .read a :: _ =>
    if wellFormedOffset a then .settle (s.hostRead (s.locate a)) else .refuse .misalignedOffset
  | .reset :: _ => .settle s.resetEvent
  | .engine :: _ =>
    match s.pend with
    | some i => .run i
    | none => .settle s
  | [] =>
    match s.pend with
    | some i => .run i
    | none => .settle s

end Sys2Proof.Machine
end

