-- ==== Sys2Proof/Machine/Step.lean ====
section
/-! DEFINITION. One step: the event now due takes its whole effect and the schedule moves on (20_memory.md R67, R70). -/

namespace Sys2Proof.Machine

/-- One atomic event of the schedule: a host transaction, the engine's completion step or a reset (10_state.md R20;
20_memory.md R67, R70; assumption log 5). -/
def step (s : State) : Host.Outcome State Fault Refusal :=
  match s.due with
  | .run i => advanceOutcome (exec i s)
  | .settle t => advanceOutcome (.next t)
  | .refuse r => .refused r

/-- `s` with the host's write of the command word to CMD placed before the events of the schedule: the block fetches
nothing, a command is the data of that write (20_memory.md R75; 30_encoding.md R90; assumption log 5). -/
def State.withFetchWord (s : State) (nbits w : Nat) : State :=
  { s with script := .write 0x0000004#25 (tableWord nbits w) :: s.script }

end Sys2Proof.Machine
end

