-- ==== Sys2Proof/Safety.lean ====
section
/-! DEFINITION. The terms in which claims about the machine are stated: the invariant of its states, schedules that never
stop it, runs, the reading sets of the commands, and the ditherer's defining equations. -/

namespace Sys2Proof.Machine

/-- CAP holds a capacity the spec allows, 1 to 2^22 (00_scope.md R5; 10_state.md R29). -/
def State.capLegal (s : State) : Prop := 1 ≤ s.maxPix ∧ s.maxPix ≤ 2 ^ 22

/-- The memory is in canonical form and lists bytes of PAL and FRAME only (20_memory.md R60 to R63; assumption log 3). -/
def State.memLegal (s : State) : Prop := s.mem.wf ∧ ∀ c ∈ s.mem, holdsByte s.maxPix c.1 = true

/-- ERRCODE is 0 exactly when ERR is 0 (10_state.md R23; 60_exceptions.md R191). -/
def State.errLegal (s : State) : Prop := s.err = false ↔ s.errCode = .none

/-- In the busy window DONE is 0, and a pending processing command still meets the configuration check that it was
accepted under (40_command_issue.md R111, R112, R117). -/
def State.pendLegal (s : State) : Prop :=
  ∀ i, s.pend = some i → s.done = false ∧ (validated i = true → s.validate = .none)

/-- The invariant of the block's states. -/
structure State.Inv (s : State) : Prop where
  cap : s.capLegal
  mem : s.memLegal
  err : s.errLegal
  pend : s.pendLegal

/-- An event that exists at the port: its offset is a multiple of 4 (20_memory.md R60, R65). -/
def Event.aligned : Event → Bool
  | .write a _ => wellFormedOffset a
  | .read a => wellFormedOffset a
  | .engine => true
  | .reset => true

/-- Every event still to come exists at the port. -/
def State.alignedScript (s : State) : Prop := ∀ e ∈ s.script, e.aligned = true

/-- `n` steps, stopping at the first fault or refusal. -/
def runFor (n : Nat) (s : State) : Host.Outcome State Fault Refusal :=
  match n with
  | 0 => .next s
  | k + 1 =>
    match step s with
    | .next t => runFor k t
    | .fault r => .fault r
    | .refused r => .refused r

/-- A host transaction: a write or a read of the port (20_memory.md R60; 30_encoding.md R92). The engine's turn and a reset
are none. -/
def Event.isTransaction : Event → Bool
  | .write _ _ => true
  | .read _ => true
  | .engine => false
  | .reset => false

/-- The end of a run: the host has issued its last transaction and no command is pending; what the schedule still holds
of the engine or the platform does not matter (70_reset_and_hazards.md R239). -/
def State.runOver (s : State) : Bool := !s.script.any Event.isTransaction && decide (s.pend = none)

/-- What the engine does to FRAME (and the accumulators) when it completes a command (40_command_issue.md R114). -/
def processing : Instr → State → State
  | .nop => id
  | .pixmean => State.pixmean
  | .pixmode => State.pixmode
  | .qnear => State.qnear
  | .qdith => State.qdith

/-- Byte offset `a` belongs to the bitmap FRAME[0..W*H-1] (10_state.md R31, R32). -/
def State.inBitmap (s : State) (a : Nat) : Prop := frameBase ≤ a ∧ a < frameOffset (s.imgW * s.imgH)

/-- The bitmaps of two states have the same dimensions and the same pixel words (10_state.md R32). -/
def State.sameBitmap (s u : State) : Prop :=
  s.imgW = u.imgW ∧ s.imgH = u.imgH ∧ ∀ i, i < s.imgW * s.imgH → s.pixel i = u.pixel i

/-- The palettes in use of two states are the same: K and PAL[0..K-1] (10_state.md R30). -/
def State.samePalette (s u : State) : Prop :=
  s.palK = u.palK ∧ ∀ j, j < s.palK → s.palEntry j = u.palEntry j

/-- Pixel (x, y) of the bitmap is the colour that the downsampler with aggregator `rep` gives it: the representative
colour of its block in `s`, its own alpha kept (43_downsampler.md R170, R175, R177, R178). -/
def downsampled (rep : List Colour → Colour) (s : State) (x y : Nat) : Word :=
  emit (rep (s.coloursAt (s.blockIndices (x / s.blockP) (y / s.blockP)))) (s.px x y)

/-- The effective colour of pixel (x, y) of the bitmap in `s`, given the accumulated error that `t` holds
(42_ditherer.md R154). -/
def ditherEffective (s t : State) (x y : Nat) : Vec3 :=
  (s.pixelVec (s.pixelIndex x y)).add (t.errAt x y).round16

/-- The palette colour chosen for it (42_ditherer.md R155). -/
def ditherChosen (s t : State) (x y : Nat) : Colour := s.palEntry (s.nearest (ditherEffective s t x y))

/-- Its residual (42_ditherer.md R157). -/
def ditherResidual (s t : State) (x y : Nat) : Vec3 := (ditherEffective s t x y).sub (vecOf (ditherChosen s t x y))

/-- The share with weight `w` that arrives from pixel (x, y), or nothing where there is no such pixel
(42_ditherer.md R158, R159). -/
def ditherShare (s t : State) (exists' : Bool) (w : Int) (x y : Nat) : Vec3 :=
  if exists' then (ditherResidual s t x y).smul w else Vec3.zero

/-- The error that reaches pixel (x, y): 7 from the left, 3 from above right, 5 from above, 1 from above left, each only
if that pixel is in the image (42_ditherer.md R158, R159, R161). -/
def ditherArrival (s t : State) (x y : Nat) : Vec3 :=
  (((ditherShare s t (decide (1 ≤ x)) 7 (x - 1) y).add
    (ditherShare s t (decide (x + 1 < s.imgW ∧ 1 ≤ y)) 3 (x + 1) (y - 1))).add
    (ditherShare s t (decide (1 ≤ y)) 5 x (y - 1))).add
    (ditherShare s t (decide (1 ≤ x ∧ 1 ≤ y)) 1 (x - 1) (y - 1))

/-- Every channel of the vector lies between the bounds. -/
def Vec3.within (lo hi : Int) (v : Vec3) : Prop :=
  (lo ≤ v.r ∧ v.r ≤ hi) ∧ (lo ≤ v.g ∧ v.g ≤ hi) ∧ (lo ≤ v.b ∧ v.b ≤ hi)

end Sys2Proof.Machine
end

