-- ==== Sys2Proof/Certificates/Slice0/Obligations.lean ====
section
/-! DEFINITION. The statements for the provers, from the numbered rules of the spec. A hypothesis `s.completionDue i =
true` says that the event now due is the engine's turn with command `i` pending (40_command_issue.md R114); a hypothesis
`s.validate = .none` says that the configuration is one that R111 accepts. -/

open Sys2Proof Sys2Proof.Machine

/-! ### Encoding (30_encoding.md) -/

/-- 30_encoding.md R91: the five words, and a word decodes to a command exactly when it is that command's word. -/
def Obligations.WordDecodesToCommandIffItIsItsEncoding : Prop :=
  (encode .nop = 0x00000000#32 ∧ encode .pixmean = 0x00000001#32 ∧ encode .pixmode = 0x00000002#32 ∧
    encode .qnear = 0x00000003#32 ∧ encode .qdith = 0x00000004#32) ∧
  ∀ (v : Word) (i : Instr), decode v = .ok i ↔ v = encode i

/-- 30_encoding.md R95: the decoder written from the table alone is the decoder. -/
def Obligations.TableDecoderAgreesWithDecoder : Prop :=
  ∀ v : Word, tableDecode v = (decode v).toOption

/-- 30_encoding.md R90, R96: an invalid word is refused, with the name of the check it fails (the two names are the
model's, assumption log 13; the spec has the one error ILLCMD). -/
def Obligations.InvalidWordRefusedByName : Prop :=
  ∀ v : Word,
    (wellFormedWord v = false ↔ ∃ e, decode v = .error e) ∧
    (v.extractLsb' 4 28 ≠ 0#28 → decode v = .error .reservedBits) ∧
    (v.extractLsb' 4 28 = 0#28 → 5 ≤ (v.extractLsb' 0 4).toNat → decode v = .error .reservedOp)

/-- 30_encoding.md R91, R96: a few words written out and what they decode to. -/
def Obligations.SpelledWordsDecode : Prop :=
  decode 0x00000000#32 = .ok .nop ∧ decode 0x00000001#32 = .ok .pixmean ∧ decode 0x00000002#32 = .ok .pixmode ∧
  decode 0x00000003#32 = .ok .qnear ∧ decode 0x00000004#32 = .ok .qdith ∧
  decode 0x00000005#32 = .error .reservedOp ∧ decode 0x00000010#32 = .error .reservedBits ∧
  decode 0x80000001#32 = .error .reservedBits

/-! ### A step runs the command (40_command_issue.md R110, R114) -/

/-- 40_command_issue.md R110: a write of a command word to CMD, with any schedule behind it, runs the decoded command, and
the step moves the schedule on; the word that `withFetchWord` places is such a write. -/
def Obligations.StepRunsTheCommandWritten : Prop :=
  (∀ (s : State) (v : Word) (rest : List Event) (i : Instr),
    s.script = .write 0x0000004#25 v :: rest → decode v = .ok i →
    ∃ t, exec i s = .next t ∧ step s = .next { t with script := rest }) ∧
  (∀ (s : State) (w : Nat) (i : Instr), decodeTableWord 32 w = some i →
    ∃ t, exec i (s.withFetchWord 32 w) = .next t ∧
      step (s.withFetchWord 32 w) = .next { t with script := s.script })

/-- 40_command_issue.md R114: the engine's turn runs the pending command. That an exhausted schedule is the engine's turn
is the model's reading (assumption log 6). -/
def Obligations.EngineTurnRunsThePendingCommand : Prop :=
  ∀ (s : State) (i : Instr), s.pend = some i → (s.script = [] ∨ ∃ rest, s.script = .engine :: rest) →
    ∃ t, exec i s = .next t ∧ step s = .next { t with script := s.script.tail }

/-! ### The command write (40_command_issue.md R110 to R113) -/

/-- 40_command_issue.md R112: acceptance, for every command. -/
def Obligations.IdleCommandAccepted : Prop :=
  ∀ (i : Instr) (s : State), s.pend = none → (i ≠ .nop → s.validate = .none) →
    exec i s = .next { s with done := false, pend := some i }

/-- 40_command_issue.md R113: a processing command whose configuration fails is rejected with the code of the failing
check, and nothing else changes. -/
def Obligations.InvalidConfigurationRejected : Prop :=
  ∀ (i : Instr) (s : State), s.pend = none → i ≠ .nop → s.validate ≠ .none →
    exec i s = .next { s with err := true, errCode := s.validate }

/-- 60_exceptions.md R192: a word that is no command is rejected with ILLCMD whatever the configuration holds, and nothing
else changes. -/
def Obligations.IllegalWordRejected : Prop :=
  ∀ (s : State) (v : Word) (rest : List Event), s.script = .write 0x0000004#25 v :: rest → s.pend = none →
    (∀ i, v ≠ encode i) →
    step s = .next { s with err := true, errCode := .illCmd, script := rest }

/-- 40_command_issue.md R111: the first code that applies, in the order P, K, W and H, W * H. -/
def Obligations.ValidationReportsFirstFault : Prop :=
  ∀ s : State, s.validate =
    if s.block.toNat = 0 then .cfgBlock
    else if s.palSize.toNat < 4 ∨ 256 < s.palSize.toNat then .cfgPal
    else if s.width.toNat = 0 ∨ s.height.toNat = 0 then .dim
    else if s.cap.toNat < s.width.toNat * s.height.toNat then .dimCap
    else .none

/-- 20_memory.md R73 (a): in the busy window a write to CMD (of any word), to an operand register, to a PAL entry or to a
FRAME entry sets OVR and does nothing else. -/
def Obligations.BusyWriteDropped : Prop :=
  ∀ (s : State) (a : Offset) (v : Word) (rest : List Event),
    s.script = .write a v :: rest → wellFormedOffset a = true → s.pend ≠ none →
    (s.locate a = .cmd ∨ s.locate a = .width ∨ s.locate a = .height ∨ s.locate a = .block ∨ s.locate a = .palSize ∨
      (∃ j, s.locate a = .pal j) ∨ ∃ i, s.locate a = .frame i) →
    step s = .next { s with ovr := true, script := rest }

/-! ### Completion: what each command computes -/

/-- 40_command_issue.md R116: NOP completes with PEND and DONE changed and nothing else. -/
def Obligations.NopCompletion : Prop :=
  ∀ s : State, s.completionDue .nop = true → exec .nop s = .next { s with pend := none, done := true }

/-- 41_color_mapper.md R134, R135: every pixel takes the colour of its nearest palette entry (bits 23:0) and keeps its
alpha (bits 31:24); every byte outside the bitmap and everything else but PEND and DONE is unchanged. -/
def Obligations.QnearResult : Prop :=
  ∀ s : State, s.completionDue .qnear = true → s.validate = .none →
    ∃ t, exec .qnear s = .next t ∧ t = { s with mem := t.mem, pend := none, done := true } ∧
      (∀ i, i < s.imgW * s.imgH →
        t.pixel i = emit (s.palEntry (s.nearest (s.pixelVec i))) (s.pixel i) ∧
        (t.pixel i).extractLsb' 0 24 = s.palEntry (s.nearest (s.pixelVec i)) ∧
        (t.pixel i).extractLsb' 24 8 = (s.pixel i).extractLsb' 24 8) ∧
      ∀ a, ¬ s.inBitmap a → t.byteAt a = s.byteAt a

/-- 43_downsampler.md R175, R178: every pixel takes the rounded mean colour of its block (bits 23:0) and keeps its alpha
(bits 31:24); every byte outside the bitmap and everything else but PEND and DONE is unchanged. -/
def Obligations.PixmeanResult : Prop :=
  ∀ s : State, s.completionDue .pixmean = true → s.validate = .none →
    ∃ t, exec .pixmean s = .next t ∧ t = { s with mem := t.mem, pend := none, done := true } ∧
      (∀ x y, x < s.imgW → y < s.imgH →
        t.pixel (s.pixelIndex x y) = downsampled meanColour s x y ∧
        (t.px x y).extractLsb' 0 24 =
          meanColour (s.coloursAt (s.blockIndices (x / s.blockP) (y / s.blockP))) ∧
        (t.px x y).extractLsb' 24 8 = (s.px x y).extractLsb' 24 8) ∧
      ∀ a, ¬ s.inBitmap a → t.byteAt a = s.byteAt a

/-- 43_downsampler.md R177, R178: the same with the mode of the block. -/
def Obligations.PixmodeResult : Prop :=
  ∀ s : State, s.completionDue .pixmode = true → s.validate = .none →
    ∃ t, exec .pixmode s = .next t ∧ t = { s with mem := t.mem, pend := none, done := true } ∧
      (∀ x y, x < s.imgW → y < s.imgH →
        t.pixel (s.pixelIndex x y) = downsampled modeColour s x y ∧
        (t.px x y).extractLsb' 0 24 =
          modeColour (s.coloursAt (s.blockIndices (x / s.blockP) (y / s.blockP))) ∧
        (t.px x y).extractLsb' 24 8 = (s.px x y).extractLsb' 24 8) ∧
      ∀ a, ¬ s.inBitmap a → t.byteAt a = s.byteAt a

/-- 42_ditherer.md R154 to R160: the raster loop satisfies the ditherer's defining equations. The error that reached a
pixel is 7, 3, 5 and 1 times the residuals of its left, above-right, above and above-left neighbours inside the image;
the pixel takes the entry nearest to its effective colour (bits 23:0) and keeps its alpha (bits 31:24); every byte
outside the bitmap and everything else but PEND, DONE and the accumulators is unchanged. That the accumulators can be
read after completion, with W * H entries as the loop left them, is the model's choice (assumption log 9); the spec
calls them dead there (10_state.md R33). -/
def Obligations.QdithResult : Prop :=
  ∀ s : State, s.completionDue .qdith = true → s.validate = .none →
    ∃ t, exec .qdith s = .next t ∧
      t = { s with mem := t.mem, ditherErr := t.ditherErr, pend := none, done := true } ∧
      t.ditherErr.length = s.imgW * s.imgH ∧
      (∀ x y, x < s.imgW → y < s.imgH →
        t.errAt x y = ditherArrival s t x y ∧
        t.pixel (s.pixelIndex x y) = emit (ditherChosen s t x y) (s.px x y) ∧
        (t.px x y).extractLsb' 0 24 = ditherChosen s t x y ∧
        (t.px x y).extractLsb' 24 8 = (s.px x y).extractLsb' 24 8) ∧
      ∀ a, ¬ s.inBitmap a → t.byteAt a = s.byteAt a

/-- 40_command_issue.md R117, 10_state.md R30: whatever a command does, at its write or at its completion, it goes on to a
next state with the operand registers, IRQEN, CAP and every PAL entry as they were. -/
def Obligations.CommandsKeepOperandRegistersAndPalette : Prop :=
  ∀ (i : Instr) (s : State), ∃ t, exec i s = .next t ∧
    t.width = s.width ∧ t.height = s.height ∧ t.block = s.block ∧ t.palSize = s.palSize ∧ t.cap = s.cap ∧
    t.ieDone = s.ieDone ∧ t.ieErr = s.ieErr ∧ t.ieOvr = s.ieOvr ∧
    ∀ j, j < 256 → t.palEntry j = s.palEntry j

/-! ### The colour mapper (41_color_mapper.md) -/

/-- 41_color_mapper.md R131. -/
def Obligations.DistanceIsSquaredEuclidean : Prop :=
  ∀ a b : Vec3,
    colourDist a b = (a.r - b.r) ^ 2 + (a.g - b.g) ^ 2 + (a.b - b.b) ^ 2 ∧
    colourDist a b = colourDist b a ∧ 0 ≤ colourDist a b ∧
    (colourDist a b = 0 ↔ a = b)

/-- 41_color_mapper.md R132: the least index in 0 to K-1 whose distance is minimal. -/
def Obligations.NearestIsLeastIndexOfMinimalDistance : Prop :=
  ∀ (s : State) (c : Vec3), 1 ≤ s.palK →
    s.nearest c < s.palK ∧
    (∀ j, j < s.palK →
      colourDist c (s.palVec (s.nearest c)) ≤ colourDist c (s.palVec j)) ∧
    (∀ j, j < s.nearest c →
      colourDist c (s.palVec (s.nearest c)) < colourDist c (s.palVec j))

/-- 41_color_mapper.md R136: after QNEAR and after QDITH every pixel's colour is an entry in use of the palette. -/
def Obligations.MappedColoursAreInThePalette : Prop :=
  ∀ (i : Instr) (s : State), i = .qnear ∨ i = .qdith → s.completionDue i = true → s.validate = .none →
    ∃ t, exec i s = .next t ∧
      ∀ k, k < s.imgW * s.imgH → ∃ j, j < t.palK ∧ rgbOf (t.pixel k) = t.palEntry j

/-- 41_color_mapper.md R137 and 42_ditherer.md R162 (c): mapping an already mapped bitmap again, with either mapping
command and the same palette, changes no byte. -/
def Obligations.MappingAgainChangesNothing : Prop :=
  ∀ (i j : Instr) (s : State), i = .qnear ∨ i = .qdith → j = .qnear ∨ j = .qdith →
    s.completionDue i = true → s.validate = .none →
    ∃ t u, exec i s = .next t ∧ exec j { t with pend := some j } = .next u ∧ ∀ a, u.byteAt a = t.byteAt a

/-- 41_color_mapper.md R138: the pixels may be visited in any order. -/
def Obligations.QnearOrderIsFree : Prop :=
  ∀ (s : State) (l : List Nat), l.Perm (List.range (s.imgW * s.imgH)) →
    ∀ a, (l.foldl State.qnearPixel s).byteAt a = s.qnear.byteAt a

/-- 20_memory.md R69, 00_scope.md R6, R11: QNEAR and QDITH are functions of the bitmap, K and PAL[0..K-1] alone; P,
MAXPIX, the flags and the accumulators left by an earlier command do not matter. -/
def Obligations.MapperReadsBitmapAndPaletteAlone : Prop :=
  ∀ (i : Instr) (s u : State), i = .qnear ∨ i = .qdith → s.completionDue i = true → u.completionDue i = true →
    s.validate = .none → u.validate = .none → s.sameBitmap u → s.samePalette u →
    ∃ t v, exec i s = .next t ∧ exec i u = .next v ∧ t.sameBitmap v

/-! ### The ditherer (42_ditherer.md) -/

/-- 42_ditherer.md R161: the bounds of effective colour, residual and accumulator at every pixel, and the fit in 32 bits.
The rule bounds the accumulator at the moment of the visit, after which the loop leaves that entry alone; the statement
reads it from the state after completion, which keeps it by the model's choice (assumption log 9). -/
def Obligations.DitherErrorIsBounded : Prop :=
  ∀ s : State, s.completionDue .qdith = true →
    ∃ t, exec .qdith s = .next t ∧
      ∀ x y : Nat, x < s.imgW → y < s.imgH →
        (ditherResidual s t x y).within (-(255 * (x + 2 * y + 1))) (255 * (x + 2 * y + 1)) ∧
        (ditherEffective s t x y).within (-(255 * (x + 2 * y))) (255 * (x + 2 * y + 1)) ∧
        (t.errAt x y).within (-(4080 * (x + 2 * y))) (4080 * (x + 2 * y)) ∧
        (t.errAt x y).within (-(2 ^ 31)) (2 ^ 31 - 1)

/-- 00_scope.md R5, 42_ditherer.md R161: an invariant that every step keeps: the accumulators fit 32
bits. That the state keeps them after QDITH is the model's choice (assumption log 9). -/
def Obligations.EveryStepKeepsAccumulatorsIn32Bits : Prop :=
  ∀ s t : State, (∀ e ∈ s.ditherErr, e.within (-(2 ^ 31)) (2 ^ 31 - 1)) → step s = .next t →
    ∀ e ∈ t.ditherErr, e.within (-(2 ^ 31)) (2 ^ 31 - 1)

/-- 42_ditherer.md R162 (a): a bitmap all of whose colours are palette entries is left as it is by QDITH, and every
accumulator stays 0. That the W * H accumulators can be read after the command is the model's choice (assumption
log 9). -/
def Obligations.PaletteColouredBitmapDithersToItself : Prop :=
  ∀ s : State, s.completionDue .qdith = true → s.validate = .none →
    (∀ k, k < s.imgW * s.imgH → ∃ j, j < s.palK ∧ rgbOf (s.pixel k) = s.palEntry j) →
    ∃ t, exec .qdith s = .next t ∧ (∀ a, t.byteAt a = s.byteAt a) ∧
      t.ditherErr = List.replicate (s.imgW * s.imgH) Vec3.zero

/-- 42_ditherer.md R160, corner case (a): pixel (0, 0) comes out as from QNEAR. -/
def Obligations.DitherFirstPixelAsQnear : Prop :=
  ∀ s : State, s.completionDue .qdith = true → s.validate = .none →
    ∃ t, exec .qdith s = .next t ∧ t.pixel 0 = emit (s.palEntry (s.nearest (s.pixelVec 0))) (s.pixel 0)

/-- 10_state.md R33, 42_ditherer.md R152: nothing survives in the accumulators from an earlier command. -/
def Obligations.DitherForgetsOldAccumulators : Prop :=
  ∀ (s : State) (old : List Vec3), s.completionDue .qdith = true →
    ∃ t, exec .qdith s = .next t ∧ exec .qdith { s with ditherErr := old } = .next t

/-! ### The downsampler (43_downsampler.md) -/

/-- 43_downsampler.md R170, R171: every pixel lies in block (x / P, y / P) and in no other, a block has the stated size and
at least one pixel, lists no pixel twice, and the sizes sum to W * H. -/
def Obligations.BlocksPartitionTheBitmap : Prop :=
  ∀ s : State, 1 ≤ s.blockP → 1 ≤ s.imgW → 1 ≤ s.imgH →
    (∀ x y, x < s.imgW → y < s.imgH →
      x / s.blockP < s.nbx ∧ y / s.blockP < s.nby ∧
      ∀ bx bY, s.pixelIndex x y ∈ s.blockIndices bx bY ↔ bx = x / s.blockP ∧ bY = y / s.blockP) ∧
    (∀ bx bY, bx < s.nbx → bY < s.nby →
      (s.blockIndices bx bY).length =
        (min (bx * s.blockP + s.blockP) s.imgW - bx * s.blockP) *
          (min (bY * s.blockP + s.blockP) s.imgH - bY * s.blockP) ∧
      1 ≤ (s.blockIndices bx bY).length ∧ (s.blockIndices bx bY).Nodup) ∧
    ((List.range s.nby).map fun bY =>
      ((List.range s.nbx).map fun bx => (s.blockIndices bx bY).length).sum).sum = s.imgW * s.imgH

/-- 43_downsampler.md R172: each channel of the mean is the exact quotient rounded half up, and fits the channel; the mean
colour is the three channel means, R in bits 7:0, G in bits 15:8, B in bits 23:16. -/
def Obligations.ChannelMeanIsRoundedHalfUp : Prop :=
  (∀ (c : Colour → Byte) (l : List Colour), l ≠ [] →
    channelSum c l = (l.map fun q => (c q).toNat).sum ∧
    (channelMean c l).toNat = (2 * channelSum c l + l.length) / (2 * l.length) ∧
    channelSum c l ≤ 255 * l.length) ∧
  (∀ l : List Colour,
    meanColour l = colourOf (channelMean redOf l) (channelMean greenOf l) (channelMean blueOf l) ∧
    (meanColour l).extractLsb' 0 8 = channelMean redOf l ∧
    (meanColour l).extractLsb' 8 8 = channelMean greenOf l ∧
    (meanColour l).extractLsb' 16 8 = channelMean blueOf l) ∧
  ∀ q : Colour, redOf q = q.extractLsb' 0 8 ∧ greenOf q = q.extractLsb' 8 8 ∧ blueOf q = q.extractLsb' 16 8

/-- 43_downsampler.md R176: the mode is the colour at the least rank whose count is maximal, and rank
`(y - y0) * (x1 - x0) + (x - x0)` of a block is pixel (x, y). -/
def Obligations.ModeIsFirstMostFrequentColour : Prop :=
  (∀ l : List Colour, l ≠ [] →
    ∃ T, T < l.length ∧ modeColour l = l.getD T 0#24 ∧
      (∀ u, u < l.length → l.count (l.getD u 0#24) ≤ l.count (l.getD T 0#24)) ∧
      ∀ u, u < T → l.count (l.getD u 0#24) < l.count (l.getD T 0#24)) ∧
  ∀ (s : State) (bx bY x y : Nat), bx * s.blockP ≤ x → x < min (bx * s.blockP + s.blockP) s.imgW →
    bY * s.blockP ≤ y → y < min (bY * s.blockP + s.blockP) s.imgH →
    (s.blockIndices bx bY)[(y - bY * s.blockP) * (min (bx * s.blockP + s.blockP) s.imgW - bx * s.blockP) +
      (x - bx * s.blockP)]? = some (s.pixelIndex x y)

/-- 43_downsampler.md R179: blockSize 1 is the identity for both commands. -/
def Obligations.BlockSizeOneIsIdentity : Prop :=
  ∀ (i : Instr) (s : State), i = .pixmean ∨ i = .pixmode → s.completionDue i = true → s.block = 1#16 →
    ∃ t, exec i s = .next t ∧ ∀ a, t.byteAt a = s.byteAt a

/-- 43_downsampler.md R181: after either command all pixels of a block have the same colour. -/
def Obligations.BlocksAreUniformAfterwards : Prop :=
  ∀ (i : Instr) (s : State), i = .pixmean ∨ i = .pixmode → s.completionDue i = true → s.validate = .none →
    ∃ t, exec i s = .next t ∧
      ∀ bx bY k m, k ∈ s.blockIndices bx bY → m ∈ s.blockIndices bx bY → rgbOf (t.pixel k) = rgbOf (t.pixel m)

/-- 43_downsampler.md R177, corner case (f): either command run twice with the same W, H, P changes nothing the second
time. -/
def Obligations.DownsamplingAgainChangesNothing : Prop :=
  ∀ (i : Instr) (s : State), i = .pixmean ∨ i = .pixmode → s.completionDue i = true → s.validate = .none →
    ∃ t u, exec i s = .next t ∧ exec i { t with pend := some i } = .next u ∧ ∀ a, u.byteAt a = t.byteAt a

/-- 43_downsampler.md R177, corner case (d): the mode never creates a colour that was not in the block. -/
def Obligations.ModeColourComesFromItsBlock : Prop :=
  ∀ s : State, s.completionDue .pixmode = true → s.validate = .none →
    ∃ t, exec .pixmode s = .next t ∧
      ∀ bx bY k, k ∈ s.blockIndices bx bY →
        ∃ m, m ∈ s.blockIndices bx bY ∧ rgbOf (t.pixel k) = rgbOf (s.pixel m)

/-- 43_downsampler.md R180: the blocks may be processed in any order, in place, for any aggregator of a block's colours. -/
def Obligations.BlockOrderIsFree : Prop :=
  ∀ (rep : List Colour → Colour) (s : State) (l : List (Nat × Nat)),
    l.Perm ((List.range s.nby).flatMap fun bY => (List.range s.nbx).map fun bx => (bx, bY)) →
    ∀ a, (l.foldl (fun t b => t.aggregateBlock rep b.1 b.2) s).byteAt a = (s.aggregate rep).byteAt a

/-- 20_memory.md R69, 00_scope.md R6, R11: PIXMEAN and PIXMODE are functions of the bitmap and P alone; K, PAL, MAXPIX and
the flags do not matter. -/
def Obligations.DownsamplerReadsBitmapAndBlockSizeAlone : Prop :=
  ∀ (i : Instr) (s u : State), i = .pixmean ∨ i = .pixmode → s.completionDue i = true → u.completionDue i = true →
    s.validate = .none → u.validate = .none → s.sameBitmap u → s.blockP = u.blockP →
    ∃ t v, exec i s = .next t ∧ exec i u = .next v ∧ t.sameBitmap v

/-- 00_scope.md R8: the rounding helpers are floor division, and nearest with ties upward. -/
def Obligations.RoundingHelpersRoundHalfUp : Prop :=
  (∀ a b : Int, 0 < b → fdiv a b * b ≤ a ∧ a < (fdiv a b + 1) * b) ∧
  (∀ a b : Int, 0 < b → (2 * rhuDiv a b - 1) * b ≤ 2 * a ∧ 2 * a < (2 * rhuDiv a b + 1) * b) ∧
  (∀ e : Int, rhu16 e = rhuDiv e 16) ∧
  (∀ a b : Nat, 0 < b → a ≤ cdiv a b * b ∧ cdiv a b * b < a + b) ∧
  ∀ a : Int, square a = a * a

/-! ### The port (20_memory.md; 10_state.md) -/

/-- 20_memory.md R60: the address map, for every offset the port carries. -/
def Obligations.AddressMapIsAsStated : Prop :=
  ∀ (s : State) (a : Offset), wellFormedOffset a = true →
    (s.locate a = .id ↔ a.toNat = 0x00) ∧ (s.locate a = .cmd ↔ a.toNat = 0x04) ∧
    (s.locate a = .status ↔ a.toNat = 0x08) ∧ (s.locate a = .irqEn ↔ a.toNat = 0x0C) ∧
    (s.locate a = .width ↔ a.toNat = 0x10) ∧ (s.locate a = .height ↔ a.toNat = 0x14) ∧
    (s.locate a = .block ↔ a.toNat = 0x18) ∧ (s.locate a = .palSize ↔ a.toNat = 0x1C) ∧
    (s.locate a = .cap ↔ a.toNat = 0x20) ∧
    (∀ j, s.locate a = .pal j ↔ j < 256 ∧ a.toNat = 0x400 + 4 * j) ∧
    (∀ i, s.locate a = .frame i ↔ i < s.cap.toNat ∧ a.toNat = 0x1000000 + 4 * i) ∧
    (s.locate a = .unmapped ↔
      (0x24 ≤ a.toNat ∧ a.toNat < 0x400) ∨ (0x800 ≤ a.toNat ∧ a.toNat < 0x1000000) ∨
        0x1000000 + 4 * s.cap.toNat ≤ a.toNat)

/-- 10_state.md R25 to R28: outside the busy window a write to an operand register stores its field, legal or not, and
changes nothing else. -/
def Obligations.IdleOperandRegisterWrites : Prop :=
  ∀ (s : State) (v : Word) (rest : List Event), s.pend = none →
    (s.script = .write 0x0000010#25 v :: rest → step s = .next { s with width := v.extractLsb' 0 16, script := rest }) ∧
    (s.script = .write 0x0000014#25 v :: rest → step s = .next { s with height := v.extractLsb' 0 16, script := rest }) ∧
    (s.script = .write 0x0000018#25 v :: rest → step s = .next { s with block := v.extractLsb' 0 16, script := rest }) ∧
    (s.script = .write 0x000001C#25 v :: rest → step s = .next { s with palSize := v.extractLsb' 0 9, script := rest })

/-- 10_state.md R23, R24; 20_memory.md R73 (b): a write to STATUS clears the flags whose bits are 1, ERRCODE with ERR, and a
write to IRQEN stores bits 3:1; both at any time, and nothing else changes. -/
def Obligations.StatusAndIrqenWrites : Prop :=
  ∀ (s : State) (v : Word) (rest : List Event),
    (s.script = .write 0x0000008#25 v :: rest →
      step s = .next { s with
        done := if v.getLsbD 1 then false else s.done
        err := if v.getLsbD 2 then false else s.err
        errCode := if v.getLsbD 2 then .none else s.errCode
        ovr := if v.getLsbD 3 then false else s.ovr
        script := rest }) ∧
    (s.script = .write 0x000000C#25 v :: rest →
      step s = .next { s with
        ieDone := v.getLsbD 1, ieErr := v.getLsbD 2, ieOvr := v.getLsbD 3, script := rest })

/-- 20_memory.md R63: a write to ID, CAP or an unmapped offset is ignored, in or out of the busy window; a read of an
unmapped offset returns 0; neither has a side effect. -/
def Obligations.ReadOnlyAndUnmappedAreInert : Prop :=
  ∀ (s : State) (a : Offset) (rest : List Event), wellFormedOffset a = true →
    (∀ v, s.script = .write a v :: rest → s.locate a = .id ∨ s.locate a = .cap ∨ s.locate a = .unmapped →
      step s = .next { s with script := rest }) ∧
    (s.script = .read a :: rest → s.locate a = .unmapped → step s = .next { s with rdata := 0#32, script := rest })

/-- 20_memory.md R61: outside the busy window a FRAME write stores all 32 bits of its entry and nothing else, and every
other byte reads as before. -/
def Obligations.IdleFrameWriteStoresThePixel : Prop :=
  ∀ (s : State) (i : Nat) (v : Word) (rest : List Event), s.pend = none → i < s.maxPix → s.maxPix ≤ 2 ^ 22 →
    s.script = .write (BitVec.ofNat 25 (frameOffset i)) v :: rest →
    ∃ t, step s = .next t ∧ t = { s with mem := t.mem, script := rest } ∧ t.pixel i = v ∧
      ∀ a, a < frameOffset i ∨ frameOffset i + 4 ≤ a → t.byteAt a = s.byteAt a

/-- 20_memory.md R62: outside the busy window a PAL write stores bits 23:0 of its entry and nothing else, and every other
byte reads as before. -/
def Obligations.IdlePaletteWriteStoresTheColour : Prop :=
  ∀ (s : State) (j : Nat) (v : Word) (rest : List Event), s.pend = none → j < 256 →
    s.script = .write (BitVec.ofNat 25 (palOffset j)) v :: rest →
    ∃ t, step s = .next t ∧ t = { s with mem := t.mem, script := rest } ∧ t.palEntry j = v.extractLsb' 0 24 ∧
      ∀ a, a < palOffset j ∨ palOffset j + 3 ≤ a → t.byteAt a = s.byteAt a

/-- 10_state.md R21 to R31; 20_memory.md R61, R62, R66: what each register, PAL entry and FRAME entry reads as, and that a
read changes nothing but the port's read data. -/
def Obligations.ReadsReturnTheStoredValue : Prop :=
  ∀ (s : State) (a : Offset) (rest : List Event), s.script = .read a :: rest → wellFormedOffset a = true →
    (a.toNat = 0x00 → step s = .next { s with rdata := 0x50514501#32, script := rest }) ∧
    (a.toNat = 0x04 → step s = .next { s with rdata := 0#32, script := rest }) ∧
    (a.toNat = 0x08 → step s = .next { s with rdata := s.statusWord, script := rest }) ∧
    (a.toNat = 0x0C → step s = .next { s with rdata := s.irqEnWord, script := rest }) ∧
    (a.toNat = 0x10 → step s = .next { s with rdata := s.width.setWidth 32, script := rest }) ∧
    (a.toNat = 0x14 → step s = .next { s with rdata := s.height.setWidth 32, script := rest }) ∧
    (a.toNat = 0x18 → step s = .next { s with rdata := s.block.setWidth 32, script := rest }) ∧
    (a.toNat = 0x1C → step s = .next { s with rdata := s.palSize.setWidth 32, script := rest }) ∧
    (a.toNat = 0x20 → step s = .next { s with rdata := s.cap.setWidth 32, script := rest }) ∧
    (∀ j, j < 256 → a.toNat = palOffset j →
      step s = .next { s with rdata := (s.palEntry j).setWidth 32, script := rest }) ∧
    (∀ i, i < s.maxPix → a.toNat = frameOffset i → s.pend = none →
      step s = .next { s with rdata := s.pixel i, script := rest })

/-- 20_memory.md R73 (d): in the busy window a FRAME read returns a fresh draw (its form is the model's, assumption
log 4) and changes nothing of the block. -/
def Obligations.BusyFrameReadIsAFreshDraw : Prop :=
  ∀ (s : State) (a : Offset) (i : Nat) (rest : List Event), s.script = .read a :: rest → wellFormedOffset a = true →
    s.locate a = .frame i → s.pend ≠ none →
    step s = .next { s with rdata := Config.anyWord s.draws, draws := s.draws + 1, script := rest }

/-- 10_state.md R23, R24: the bits of the STATUS and IRQEN words; 60_exceptions.md R191: the values of ERRCODE. -/
def Obligations.StatusAndIrqenWordLayout : Prop :=
  (ErrCode.none.bits = 0#4 ∧ ErrCode.illCmd.bits = 1#4 ∧ ErrCode.cfgBlock.bits = 2#4 ∧ ErrCode.cfgPal.bits = 3#4 ∧
    ErrCode.dim.bits = 4#4 ∧ ErrCode.dimCap.bits = 5#4) ∧
  ∀ s : State,
    s.statusWord.getLsbD 0 = decide (s.pend ≠ none) ∧ s.statusWord.getLsbD 1 = s.done ∧
    s.statusWord.getLsbD 2 = s.err ∧ s.statusWord.getLsbD 3 = s.ovr ∧ s.statusWord.extractLsb' 4 4 = 0#4 ∧
    s.statusWord.extractLsb' 8 4 = s.errCode.bits ∧ s.statusWord.extractLsb' 12 20 = 0#20 ∧
    s.irqEnWord.getLsbD 0 = false ∧ s.irqEnWord.getLsbD 1 = s.ieDone ∧ s.irqEnWord.getLsbD 2 = s.ieErr ∧
    s.irqEnWord.getLsbD 3 = s.ieOvr ∧ s.irqEnWord.extractLsb' 4 28 = 0#28

/-- 10_state.md R36: `irq` is the disjunction of the enabled flags, that is, the status word masked by the enables is
not 0. -/
def Obligations.IrqIsMaskedStatus : Prop :=
  ∀ s : State, s.irq = ((s.done && s.ieDone) || (s.err && s.ieErr) || (s.ovr && s.ieOvr)) ∧
    s.irq = decide (s.statusWord &&& s.irqEnWord &&& 0xE#32 ≠ 0#32)

/-! ### Reset and idling (70_reset_and_hazards.md) -/

/-- 70_reset_and_hazards.md R220: the registers after reset. -/
def Obligations.ResetRegisterValues : Prop :=
  State.reset.statusWord = 0#32 ∧ State.reset.irqEnWord = 0#32 ∧ State.reset.width = 0#16 ∧
  State.reset.height = 0#16 ∧ State.reset.block = 8#16 ∧ State.reset.palSize = 8#9 ∧ State.reset.pend = none ∧
  State.reset.irq = false ∧ State.reset.cap.toNat = Config.maxPix

/-- 70_reset_and_hazards.md R220 to R222: the reset event, at any time, also in the busy window: every register at its
reset value, the pending command abandoned without DONE, and every byte of PAL and FRAME a fresh draw (the form of the
draw is the model's, assumption log 3). -/
def Obligations.ResetEventRestoresResetState : Prop :=
  ∀ (s : State) (rest : List Event), s.script = .reset :: rest →
    ∃ t, step s = .next t ∧ t.statusWord = 0#32 ∧ t.irqEnWord = 0#32 ∧ t.width = 0#16 ∧ t.height = 0#16 ∧
      t.block = 8#16 ∧ t.palSize = 8#9 ∧ t.pend = none ∧ t.irq = false ∧ t.cap = s.cap ∧ t.script = rest ∧
      ∀ a, holdsByte s.maxPix a = true → t.byteAt a = Config.resetByte (s.resets + 1) a

/-- 70_reset_and_hazards.md R223: a processing command issued straight after reset is rejected with DIM. -/
def Obligations.FirstCommandAfterResetIsRejectedDim : Prop :=
  ∀ i : Instr, i ≠ .nop → exec i State.reset = .next { State.reset with err := true, errCode := .dim }

/-- 70_reset_and_hazards.md R223: with nothing pending the engine has no step and nothing happens of itself; how an
exhausted schedule steps is the model's choice (assumption logs 6 and 7). -/
def Obligations.IdleBlockStaysIdle : Prop :=
  ∀ s : State, s.pend = none →
    (s.script = [] → step s = .next s) ∧
    (∀ rest, s.script = .engine :: rest → step s = .next { s with script := rest })

/-! ### The whole machine -/

/-- 10_state.md R23, R29 to R31; 40_command_issue.md R111, R112, R117: an invariant that every step keeps. CAP holds a legal
capacity; the memory is in canonical form and lists storage only; ERRCODE is 0 exactly when ERR is; in the busy window
DONE is 0 and the pending command's configuration is still valid. -/
def Obligations.EveryStepKeepsTheInvariant : Prop :=
  ∀ s t : State, s.Inv → step s = .next t → t.Inv

/-- The invariant holds at reset (70_reset_and_hazards.md R220), and so does the accumulators' fit in 32 bits. The latter
rests on the model's choice of no accumulators at reset (assumption log 9: the spec calls them unspecified there), and
the clause on memory on the model's choice of its form (assumption log 3). -/
def Obligations.InvariantHoldsAtReset : Prop :=
  State.reset.Inv ∧ ∀ e ∈ State.reset.ditherErr, e.within (-(2 ^ 31)) (2 ^ 31 - 1)

/-- 20_memory.md R60, R65; 60_exceptions.md R203: a step is refused exactly at an offset that does not exist at the port
(the refusal is the model's, assumption log 8), and it never faults. -/
def Obligations.StepStopsOnlyOffThePort : Prop :=
  ∀ s : State,
    ((∃ t, step s = .next t) ∨ step s = .refused .misalignedOffset) ∧
    (step s = .refused .misalignedOffset ↔ ∃ e rest, s.script = e :: rest ∧ e.aligned = false)

/-- 20_memory.md R60; 60_exceptions.md R203: a schedule of existing transactions runs for any number of steps. That the
machine steps on past the end of the schedule is the model's choice (assumption logs 6 and 7). -/
def Obligations.AlignedScheduleNeverStops : Prop :=
  ∀ (n : Nat) (s : State), s.alignedScript → ∃ t, runFor n s = .next t ∧ t.alignedScript

/-- 40_command_issue.md R115, R117; 20_memory.md R71: whatever the host does in the busy window, an accepted command
completes, with the result computed from the operands and memory as they were, and the operands are kept. That an
exhausted schedule is the engine's turn is the model's choice (assumption log 6). -/
def Obligations.AcceptedCommandCompletesOnItsOperands : Prop :=
  ∀ (s : State) (i : Instr), s.pend = some i → s.alignedScript → (∀ e ∈ s.script, e ≠ .reset) →
    ∃ n t, n ≤ s.script.length ∧ runFor (n + 1) s = .next t ∧ t.pend = none ∧ t.done = true ∧
      t.mem = (processing i s).mem ∧ t.width = s.width ∧ t.height = s.height ∧ t.block = s.block ∧
      t.palSize = s.palSize ∧ t.cap = s.cap

/-- 20_memory.md R66, R69, R73; 60_exceptions.md R199: a byte of PAL or FRAME changes in a step only by a reset, by the
completion of a pending command inside the bitmap, or by an idle host write to its own word. -/
def Obligations.MemoryChangesOnlyByItsThreeCauses : Prop :=
  ∀ (s t : State) (a : Nat), step s = .next t → t.byteAt a ≠ s.byteAt a →
    (∃ rest, s.script = .reset :: rest) ∨
    (∃ i, s.completionDue i = true ∧ i ≠ .nop ∧ s.inBitmap a) ∨
    (s.pend = none ∧ ∃ o v rest, s.script = .write o v :: rest ∧ o.toNat ≤ a ∧ a < o.toNat + 4)

/-- 70_reset_and_hazards.md R239: a run is over exactly when no host transaction is left and nothing is pending, a step
keeps it over, and every schedule of existing transactions comes to that end. That an exhausted schedule gives the engine
its turn, and that the machine steps on after the end, are the model's choices (assumption logs 6 and 7). -/
def Obligations.EveryAlignedRunComesToItsEnd : Prop :=
  (∀ s : State, s.runOver = true ↔
    (∀ a v, Event.write a v ∉ s.script) ∧ (∀ a, Event.read a ∉ s.script) ∧ s.pend = none) ∧
  (∀ s : State, s.runOver = true → ∃ t, step s = .next t ∧ t.runOver = true) ∧
  ∀ s : State, s.alignedScript → ∃ t, runFor (s.script.length + 1) s = .next t ∧ t.runOver = true
end

