-- ==== Sys2Proof/Laws/State.lean ====
section
/-! SUPPORT. One lemma per field and per update of the state, true by rfl, so that no proof unfolds a record update. -/

namespace Sys2Proof.Machine

/-! ### `State.clearFlags` (10_state.md R23) -/

@[simp] theorem State.clearFlags_done (v : Word) (s : State) : (s.clearFlags v).done = (s.done && !v.getLsbD 1) := rfl
@[simp] theorem State.clearFlags_err (v : Word) (s : State) : (s.clearFlags v).err = (s.err && !v.getLsbD 2) := rfl
@[simp] theorem State.clearFlags_ovr (v : Word) (s : State) : (s.clearFlags v).ovr = (s.ovr && !v.getLsbD 3) := rfl
@[simp] theorem State.clearFlags_errCode (v : Word) (s : State) : (s.clearFlags v).errCode = (if v.getLsbD 2 then .none else s.errCode) := rfl
@[simp] theorem State.clearFlags_ieDone (v : Word) (s : State) : (s.clearFlags v).ieDone = s.ieDone := rfl
@[simp] theorem State.clearFlags_ieErr (v : Word) (s : State) : (s.clearFlags v).ieErr = s.ieErr := rfl
@[simp] theorem State.clearFlags_ieOvr (v : Word) (s : State) : (s.clearFlags v).ieOvr = s.ieOvr := rfl
@[simp] theorem State.clearFlags_width (v : Word) (s : State) : (s.clearFlags v).width = s.width := rfl
@[simp] theorem State.clearFlags_height (v : Word) (s : State) : (s.clearFlags v).height = s.height := rfl
@[simp] theorem State.clearFlags_block (v : Word) (s : State) : (s.clearFlags v).block = s.block := rfl
@[simp] theorem State.clearFlags_palSize (v : Word) (s : State) : (s.clearFlags v).palSize = s.palSize := rfl
@[simp] theorem State.clearFlags_cap (v : Word) (s : State) : (s.clearFlags v).cap = s.cap := rfl
@[simp] theorem State.clearFlags_mem (v : Word) (s : State) : (s.clearFlags v).mem = s.mem := rfl
@[simp] theorem State.clearFlags_pend (v : Word) (s : State) : (s.clearFlags v).pend = s.pend := rfl
@[simp] theorem State.clearFlags_ditherErr (v : Word) (s : State) : (s.clearFlags v).ditherErr = s.ditherErr := rfl
@[simp] theorem State.clearFlags_rdata (v : Word) (s : State) : (s.clearFlags v).rdata = s.rdata := rfl
@[simp] theorem State.clearFlags_script (v : Word) (s : State) : (s.clearFlags v).script = s.script := rfl
@[simp] theorem State.clearFlags_draws (v : Word) (s : State) : (s.clearFlags v).draws = s.draws := rfl
@[simp] theorem State.clearFlags_resets (v : Word) (s : State) : (s.clearFlags v).resets = s.resets := rfl
@[simp] theorem State.clearFlags_busy (v : Word) (s : State) : (s.clearFlags v).busy = s.busy := rfl
@[simp] theorem State.clearFlags_imgW (v : Word) (s : State) : (s.clearFlags v).imgW = s.imgW := rfl
@[simp] theorem State.clearFlags_imgH (v : Word) (s : State) : (s.clearFlags v).imgH = s.imgH := rfl
@[simp] theorem State.clearFlags_blockP (v : Word) (s : State) : (s.clearFlags v).blockP = s.blockP := rfl
@[simp] theorem State.clearFlags_palK (v : Word) (s : State) : (s.clearFlags v).palK = s.palK := rfl
@[simp] theorem State.clearFlags_maxPix (v : Word) (s : State) : (s.clearFlags v).maxPix = s.maxPix := rfl

/-! ### `State.setIrqEn` (10_state.md R24) -/

@[simp] theorem State.setIrqEn_done (v : Word) (s : State) : (s.setIrqEn v).done = s.done := rfl
@[simp] theorem State.setIrqEn_err (v : Word) (s : State) : (s.setIrqEn v).err = s.err := rfl
@[simp] theorem State.setIrqEn_ovr (v : Word) (s : State) : (s.setIrqEn v).ovr = s.ovr := rfl
@[simp] theorem State.setIrqEn_errCode (v : Word) (s : State) : (s.setIrqEn v).errCode = s.errCode := rfl
@[simp] theorem State.setIrqEn_ieDone (v : Word) (s : State) : (s.setIrqEn v).ieDone = v.getLsbD 1 := rfl
@[simp] theorem State.setIrqEn_ieErr (v : Word) (s : State) : (s.setIrqEn v).ieErr = v.getLsbD 2 := rfl
@[simp] theorem State.setIrqEn_ieOvr (v : Word) (s : State) : (s.setIrqEn v).ieOvr = v.getLsbD 3 := rfl
@[simp] theorem State.setIrqEn_width (v : Word) (s : State) : (s.setIrqEn v).width = s.width := rfl
@[simp] theorem State.setIrqEn_height (v : Word) (s : State) : (s.setIrqEn v).height = s.height := rfl
@[simp] theorem State.setIrqEn_block (v : Word) (s : State) : (s.setIrqEn v).block = s.block := rfl
@[simp] theorem State.setIrqEn_palSize (v : Word) (s : State) : (s.setIrqEn v).palSize = s.palSize := rfl
@[simp] theorem State.setIrqEn_cap (v : Word) (s : State) : (s.setIrqEn v).cap = s.cap := rfl
@[simp] theorem State.setIrqEn_mem (v : Word) (s : State) : (s.setIrqEn v).mem = s.mem := rfl
@[simp] theorem State.setIrqEn_pend (v : Word) (s : State) : (s.setIrqEn v).pend = s.pend := rfl
@[simp] theorem State.setIrqEn_ditherErr (v : Word) (s : State) : (s.setIrqEn v).ditherErr = s.ditherErr := rfl
@[simp] theorem State.setIrqEn_rdata (v : Word) (s : State) : (s.setIrqEn v).rdata = s.rdata := rfl
@[simp] theorem State.setIrqEn_script (v : Word) (s : State) : (s.setIrqEn v).script = s.script := rfl
@[simp] theorem State.setIrqEn_draws (v : Word) (s : State) : (s.setIrqEn v).draws = s.draws := rfl
@[simp] theorem State.setIrqEn_resets (v : Word) (s : State) : (s.setIrqEn v).resets = s.resets := rfl
@[simp] theorem State.setIrqEn_busy (v : Word) (s : State) : (s.setIrqEn v).busy = s.busy := rfl
@[simp] theorem State.setIrqEn_imgW (v : Word) (s : State) : (s.setIrqEn v).imgW = s.imgW := rfl
@[simp] theorem State.setIrqEn_imgH (v : Word) (s : State) : (s.setIrqEn v).imgH = s.imgH := rfl
@[simp] theorem State.setIrqEn_blockP (v : Word) (s : State) : (s.setIrqEn v).blockP = s.blockP := rfl
@[simp] theorem State.setIrqEn_palK (v : Word) (s : State) : (s.setIrqEn v).palK = s.palK := rfl
@[simp] theorem State.setIrqEn_maxPix (v : Word) (s : State) : (s.setIrqEn v).maxPix = s.maxPix := rfl

/-! ### `State.setPalEntry` (20_memory.md R62) -/

@[simp] theorem State.setPalEntry_done (j : Nat) (q : Colour) (s : State) : (s.setPalEntry j q).done = s.done := rfl
@[simp] theorem State.setPalEntry_err (j : Nat) (q : Colour) (s : State) : (s.setPalEntry j q).err = s.err := rfl
@[simp] theorem State.setPalEntry_ovr (j : Nat) (q : Colour) (s : State) : (s.setPalEntry j q).ovr = s.ovr := rfl
@[simp] theorem State.setPalEntry_errCode (j : Nat) (q : Colour) (s : State) : (s.setPalEntry j q).errCode = s.errCode := rfl
@[simp] theorem State.setPalEntry_ieDone (j : Nat) (q : Colour) (s : State) : (s.setPalEntry j q).ieDone = s.ieDone := rfl
@[simp] theorem State.setPalEntry_ieErr (j : Nat) (q : Colour) (s : State) : (s.setPalEntry j q).ieErr = s.ieErr := rfl
@[simp] theorem State.setPalEntry_ieOvr (j : Nat) (q : Colour) (s : State) : (s.setPalEntry j q).ieOvr = s.ieOvr := rfl
@[simp] theorem State.setPalEntry_width (j : Nat) (q : Colour) (s : State) : (s.setPalEntry j q).width = s.width := rfl
@[simp] theorem State.setPalEntry_height (j : Nat) (q : Colour) (s : State) : (s.setPalEntry j q).height = s.height := rfl
@[simp] theorem State.setPalEntry_block (j : Nat) (q : Colour) (s : State) : (s.setPalEntry j q).block = s.block := rfl
@[simp] theorem State.setPalEntry_palSize (j : Nat) (q : Colour) (s : State) : (s.setPalEntry j q).palSize = s.palSize := rfl
@[simp] theorem State.setPalEntry_cap (j : Nat) (q : Colour) (s : State) : (s.setPalEntry j q).cap = s.cap := rfl
@[simp] theorem State.setPalEntry_mem (j : Nat) (q : Colour) (s : State) : (s.setPalEntry j q).mem = (if j < 256 then s.mem.storeColour (palOffset j) q else s.mem) := rfl
@[simp] theorem State.setPalEntry_pend (j : Nat) (q : Colour) (s : State) : (s.setPalEntry j q).pend = s.pend := rfl
@[simp] theorem State.setPalEntry_ditherErr (j : Nat) (q : Colour) (s : State) : (s.setPalEntry j q).ditherErr = s.ditherErr := rfl
@[simp] theorem State.setPalEntry_rdata (j : Nat) (q : Colour) (s : State) : (s.setPalEntry j q).rdata = s.rdata := rfl
@[simp] theorem State.setPalEntry_script (j : Nat) (q : Colour) (s : State) : (s.setPalEntry j q).script = s.script := rfl
@[simp] theorem State.setPalEntry_draws (j : Nat) (q : Colour) (s : State) : (s.setPalEntry j q).draws = s.draws := rfl
@[simp] theorem State.setPalEntry_resets (j : Nat) (q : Colour) (s : State) : (s.setPalEntry j q).resets = s.resets := rfl
@[simp] theorem State.setPalEntry_busy (j : Nat) (q : Colour) (s : State) : (s.setPalEntry j q).busy = s.busy := rfl
@[simp] theorem State.setPalEntry_imgW (j : Nat) (q : Colour) (s : State) : (s.setPalEntry j q).imgW = s.imgW := rfl
@[simp] theorem State.setPalEntry_imgH (j : Nat) (q : Colour) (s : State) : (s.setPalEntry j q).imgH = s.imgH := rfl
@[simp] theorem State.setPalEntry_blockP (j : Nat) (q : Colour) (s : State) : (s.setPalEntry j q).blockP = s.blockP := rfl
@[simp] theorem State.setPalEntry_palK (j : Nat) (q : Colour) (s : State) : (s.setPalEntry j q).palK = s.palK := rfl
@[simp] theorem State.setPalEntry_maxPix (j : Nat) (q : Colour) (s : State) : (s.setPalEntry j q).maxPix = s.maxPix := rfl

/-! ### `State.setPixel` (20_memory.md R61) -/

@[simp] theorem State.setPixel_done (i : Nat) (p : Word) (s : State) : (s.setPixel i p).done = s.done := rfl
@[simp] theorem State.setPixel_err (i : Nat) (p : Word) (s : State) : (s.setPixel i p).err = s.err := rfl
@[simp] theorem State.setPixel_ovr (i : Nat) (p : Word) (s : State) : (s.setPixel i p).ovr = s.ovr := rfl
@[simp] theorem State.setPixel_errCode (i : Nat) (p : Word) (s : State) : (s.setPixel i p).errCode = s.errCode := rfl
@[simp] theorem State.setPixel_ieDone (i : Nat) (p : Word) (s : State) : (s.setPixel i p).ieDone = s.ieDone := rfl
@[simp] theorem State.setPixel_ieErr (i : Nat) (p : Word) (s : State) : (s.setPixel i p).ieErr = s.ieErr := rfl
@[simp] theorem State.setPixel_ieOvr (i : Nat) (p : Word) (s : State) : (s.setPixel i p).ieOvr = s.ieOvr := rfl
@[simp] theorem State.setPixel_width (i : Nat) (p : Word) (s : State) : (s.setPixel i p).width = s.width := rfl
@[simp] theorem State.setPixel_height (i : Nat) (p : Word) (s : State) : (s.setPixel i p).height = s.height := rfl
@[simp] theorem State.setPixel_block (i : Nat) (p : Word) (s : State) : (s.setPixel i p).block = s.block := rfl
@[simp] theorem State.setPixel_palSize (i : Nat) (p : Word) (s : State) : (s.setPixel i p).palSize = s.palSize := rfl
@[simp] theorem State.setPixel_cap (i : Nat) (p : Word) (s : State) : (s.setPixel i p).cap = s.cap := rfl
@[simp] theorem State.setPixel_mem (i : Nat) (p : Word) (s : State) : (s.setPixel i p).mem = (if i < s.maxPix then s.mem.storePixel (frameOffset i) p else s.mem) := rfl
@[simp] theorem State.setPixel_pend (i : Nat) (p : Word) (s : State) : (s.setPixel i p).pend = s.pend := rfl
@[simp] theorem State.setPixel_ditherErr (i : Nat) (p : Word) (s : State) : (s.setPixel i p).ditherErr = s.ditherErr := rfl
@[simp] theorem State.setPixel_rdata (i : Nat) (p : Word) (s : State) : (s.setPixel i p).rdata = s.rdata := rfl
@[simp] theorem State.setPixel_script (i : Nat) (p : Word) (s : State) : (s.setPixel i p).script = s.script := rfl
@[simp] theorem State.setPixel_draws (i : Nat) (p : Word) (s : State) : (s.setPixel i p).draws = s.draws := rfl
@[simp] theorem State.setPixel_resets (i : Nat) (p : Word) (s : State) : (s.setPixel i p).resets = s.resets := rfl
@[simp] theorem State.setPixel_busy (i : Nat) (p : Word) (s : State) : (s.setPixel i p).busy = s.busy := rfl
@[simp] theorem State.setPixel_imgW (i : Nat) (p : Word) (s : State) : (s.setPixel i p).imgW = s.imgW := rfl
@[simp] theorem State.setPixel_imgH (i : Nat) (p : Word) (s : State) : (s.setPixel i p).imgH = s.imgH := rfl
@[simp] theorem State.setPixel_blockP (i : Nat) (p : Word) (s : State) : (s.setPixel i p).blockP = s.blockP := rfl
@[simp] theorem State.setPixel_palK (i : Nat) (p : Word) (s : State) : (s.setPixel i p).palK = s.palK := rfl
@[simp] theorem State.setPixel_maxPix (i : Nat) (p : Word) (s : State) : (s.setPixel i p).maxPix = s.maxPix := rfl

/-! ### `State.recolour` (20_memory.md R68) -/

@[simp] theorem State.recolour_done (q : Colour) (i : Nat) (s : State) : (s.recolour q i).done = s.done := rfl
@[simp] theorem State.recolour_err (q : Colour) (i : Nat) (s : State) : (s.recolour q i).err = s.err := rfl
@[simp] theorem State.recolour_ovr (q : Colour) (i : Nat) (s : State) : (s.recolour q i).ovr = s.ovr := rfl
@[simp] theorem State.recolour_errCode (q : Colour) (i : Nat) (s : State) : (s.recolour q i).errCode = s.errCode := rfl
@[simp] theorem State.recolour_ieDone (q : Colour) (i : Nat) (s : State) : (s.recolour q i).ieDone = s.ieDone := rfl
@[simp] theorem State.recolour_ieErr (q : Colour) (i : Nat) (s : State) : (s.recolour q i).ieErr = s.ieErr := rfl
@[simp] theorem State.recolour_ieOvr (q : Colour) (i : Nat) (s : State) : (s.recolour q i).ieOvr = s.ieOvr := rfl
@[simp] theorem State.recolour_width (q : Colour) (i : Nat) (s : State) : (s.recolour q i).width = s.width := rfl
@[simp] theorem State.recolour_height (q : Colour) (i : Nat) (s : State) : (s.recolour q i).height = s.height := rfl
@[simp] theorem State.recolour_block (q : Colour) (i : Nat) (s : State) : (s.recolour q i).block = s.block := rfl
@[simp] theorem State.recolour_palSize (q : Colour) (i : Nat) (s : State) : (s.recolour q i).palSize = s.palSize := rfl
@[simp] theorem State.recolour_cap (q : Colour) (i : Nat) (s : State) : (s.recolour q i).cap = s.cap := rfl
@[simp] theorem State.recolour_mem (q : Colour) (i : Nat) (s : State) : (s.recolour q i).mem = (if i < s.maxPix then s.mem.storePixel (frameOffset i) (emit q (s.pixel i)) else s.mem) := rfl
@[simp] theorem State.recolour_pend (q : Colour) (i : Nat) (s : State) : (s.recolour q i).pend = s.pend := rfl
@[simp] theorem State.recolour_ditherErr (q : Colour) (i : Nat) (s : State) : (s.recolour q i).ditherErr = s.ditherErr := rfl
@[simp] theorem State.recolour_rdata (q : Colour) (i : Nat) (s : State) : (s.recolour q i).rdata = s.rdata := rfl
@[simp] theorem State.recolour_script (q : Colour) (i : Nat) (s : State) : (s.recolour q i).script = s.script := rfl
@[simp] theorem State.recolour_draws (q : Colour) (i : Nat) (s : State) : (s.recolour q i).draws = s.draws := rfl
@[simp] theorem State.recolour_resets (q : Colour) (i : Nat) (s : State) : (s.recolour q i).resets = s.resets := rfl
@[simp] theorem State.recolour_busy (q : Colour) (i : Nat) (s : State) : (s.recolour q i).busy = s.busy := rfl
@[simp] theorem State.recolour_imgW (q : Colour) (i : Nat) (s : State) : (s.recolour q i).imgW = s.imgW := rfl
@[simp] theorem State.recolour_imgH (q : Colour) (i : Nat) (s : State) : (s.recolour q i).imgH = s.imgH := rfl
@[simp] theorem State.recolour_blockP (q : Colour) (i : Nat) (s : State) : (s.recolour q i).blockP = s.blockP := rfl
@[simp] theorem State.recolour_palK (q : Colour) (i : Nat) (s : State) : (s.recolour q i).palK = s.palK := rfl
@[simp] theorem State.recolour_maxPix (q : Colour) (i : Nat) (s : State) : (s.recolour q i).maxPix = s.maxPix := rfl

/-! ### `State.accept` (40_command_issue.md R112) -/

@[simp] theorem State.accept_done (i : Instr) (s : State) : (s.accept i).done = false := rfl
@[simp] theorem State.accept_err (i : Instr) (s : State) : (s.accept i).err = s.err := rfl
@[simp] theorem State.accept_ovr (i : Instr) (s : State) : (s.accept i).ovr = s.ovr := rfl
@[simp] theorem State.accept_errCode (i : Instr) (s : State) : (s.accept i).errCode = s.errCode := rfl
@[simp] theorem State.accept_ieDone (i : Instr) (s : State) : (s.accept i).ieDone = s.ieDone := rfl
@[simp] theorem State.accept_ieErr (i : Instr) (s : State) : (s.accept i).ieErr = s.ieErr := rfl
@[simp] theorem State.accept_ieOvr (i : Instr) (s : State) : (s.accept i).ieOvr = s.ieOvr := rfl
@[simp] theorem State.accept_width (i : Instr) (s : State) : (s.accept i).width = s.width := rfl
@[simp] theorem State.accept_height (i : Instr) (s : State) : (s.accept i).height = s.height := rfl
@[simp] theorem State.accept_block (i : Instr) (s : State) : (s.accept i).block = s.block := rfl
@[simp] theorem State.accept_palSize (i : Instr) (s : State) : (s.accept i).palSize = s.palSize := rfl
@[simp] theorem State.accept_cap (i : Instr) (s : State) : (s.accept i).cap = s.cap := rfl
@[simp] theorem State.accept_mem (i : Instr) (s : State) : (s.accept i).mem = s.mem := rfl
@[simp] theorem State.accept_pend (i : Instr) (s : State) : (s.accept i).pend = some i := rfl
@[simp] theorem State.accept_ditherErr (i : Instr) (s : State) : (s.accept i).ditherErr = s.ditherErr := rfl
@[simp] theorem State.accept_rdata (i : Instr) (s : State) : (s.accept i).rdata = s.rdata := rfl
@[simp] theorem State.accept_script (i : Instr) (s : State) : (s.accept i).script = s.script := rfl
@[simp] theorem State.accept_draws (i : Instr) (s : State) : (s.accept i).draws = s.draws := rfl
@[simp] theorem State.accept_resets (i : Instr) (s : State) : (s.accept i).resets = s.resets := rfl
@[simp] theorem State.accept_imgW (i : Instr) (s : State) : (s.accept i).imgW = s.imgW := rfl
@[simp] theorem State.accept_imgH (i : Instr) (s : State) : (s.accept i).imgH = s.imgH := rfl
@[simp] theorem State.accept_blockP (i : Instr) (s : State) : (s.accept i).blockP = s.blockP := rfl
@[simp] theorem State.accept_palK (i : Instr) (s : State) : (s.accept i).palK = s.palK := rfl
@[simp] theorem State.accept_maxPix (i : Instr) (s : State) : (s.accept i).maxPix = s.maxPix := rfl

/-! ### `State.reject` (40_command_issue.md R113) -/

@[simp] theorem State.reject_done (c : ErrCode) (s : State) : (s.reject c).done = s.done := rfl
@[simp] theorem State.reject_err (c : ErrCode) (s : State) : (s.reject c).err = true := rfl
@[simp] theorem State.reject_ovr (c : ErrCode) (s : State) : (s.reject c).ovr = s.ovr := rfl
@[simp] theorem State.reject_errCode (c : ErrCode) (s : State) : (s.reject c).errCode = c := rfl
@[simp] theorem State.reject_ieDone (c : ErrCode) (s : State) : (s.reject c).ieDone = s.ieDone := rfl
@[simp] theorem State.reject_ieErr (c : ErrCode) (s : State) : (s.reject c).ieErr = s.ieErr := rfl
@[simp] theorem State.reject_ieOvr (c : ErrCode) (s : State) : (s.reject c).ieOvr = s.ieOvr := rfl
@[simp] theorem State.reject_width (c : ErrCode) (s : State) : (s.reject c).width = s.width := rfl
@[simp] theorem State.reject_height (c : ErrCode) (s : State) : (s.reject c).height = s.height := rfl
@[simp] theorem State.reject_block (c : ErrCode) (s : State) : (s.reject c).block = s.block := rfl
@[simp] theorem State.reject_palSize (c : ErrCode) (s : State) : (s.reject c).palSize = s.palSize := rfl
@[simp] theorem State.reject_cap (c : ErrCode) (s : State) : (s.reject c).cap = s.cap := rfl
@[simp] theorem State.reject_mem (c : ErrCode) (s : State) : (s.reject c).mem = s.mem := rfl
@[simp] theorem State.reject_pend (c : ErrCode) (s : State) : (s.reject c).pend = s.pend := rfl
@[simp] theorem State.reject_ditherErr (c : ErrCode) (s : State) : (s.reject c).ditherErr = s.ditherErr := rfl
@[simp] theorem State.reject_rdata (c : ErrCode) (s : State) : (s.reject c).rdata = s.rdata := rfl
@[simp] theorem State.reject_script (c : ErrCode) (s : State) : (s.reject c).script = s.script := rfl
@[simp] theorem State.reject_draws (c : ErrCode) (s : State) : (s.reject c).draws = s.draws := rfl
@[simp] theorem State.reject_resets (c : ErrCode) (s : State) : (s.reject c).resets = s.resets := rfl
@[simp] theorem State.reject_busy (c : ErrCode) (s : State) : (s.reject c).busy = s.busy := rfl
@[simp] theorem State.reject_imgW (c : ErrCode) (s : State) : (s.reject c).imgW = s.imgW := rfl
@[simp] theorem State.reject_imgH (c : ErrCode) (s : State) : (s.reject c).imgH = s.imgH := rfl
@[simp] theorem State.reject_blockP (c : ErrCode) (s : State) : (s.reject c).blockP = s.blockP := rfl
@[simp] theorem State.reject_palK (c : ErrCode) (s : State) : (s.reject c).palK = s.palK := rfl
@[simp] theorem State.reject_maxPix (c : ErrCode) (s : State) : (s.reject c).maxPix = s.maxPix := rfl

/-! ### `State.dropWrite` (20_memory.md R73) -/

@[simp] theorem State.dropWrite_done (s : State) : (s.dropWrite).done = s.done := rfl
@[simp] theorem State.dropWrite_err (s : State) : (s.dropWrite).err = s.err := rfl
@[simp] theorem State.dropWrite_ovr (s : State) : (s.dropWrite).ovr = true := rfl
@[simp] theorem State.dropWrite_errCode (s : State) : (s.dropWrite).errCode = s.errCode := rfl
@[simp] theorem State.dropWrite_ieDone (s : State) : (s.dropWrite).ieDone = s.ieDone := rfl
@[simp] theorem State.dropWrite_ieErr (s : State) : (s.dropWrite).ieErr = s.ieErr := rfl
@[simp] theorem State.dropWrite_ieOvr (s : State) : (s.dropWrite).ieOvr = s.ieOvr := rfl
@[simp] theorem State.dropWrite_width (s : State) : (s.dropWrite).width = s.width := rfl
@[simp] theorem State.dropWrite_height (s : State) : (s.dropWrite).height = s.height := rfl
@[simp] theorem State.dropWrite_block (s : State) : (s.dropWrite).block = s.block := rfl
@[simp] theorem State.dropWrite_palSize (s : State) : (s.dropWrite).palSize = s.palSize := rfl
@[simp] theorem State.dropWrite_cap (s : State) : (s.dropWrite).cap = s.cap := rfl
@[simp] theorem State.dropWrite_mem (s : State) : (s.dropWrite).mem = s.mem := rfl
@[simp] theorem State.dropWrite_pend (s : State) : (s.dropWrite).pend = s.pend := rfl
@[simp] theorem State.dropWrite_ditherErr (s : State) : (s.dropWrite).ditherErr = s.ditherErr := rfl
@[simp] theorem State.dropWrite_rdata (s : State) : (s.dropWrite).rdata = s.rdata := rfl
@[simp] theorem State.dropWrite_script (s : State) : (s.dropWrite).script = s.script := rfl
@[simp] theorem State.dropWrite_draws (s : State) : (s.dropWrite).draws = s.draws := rfl
@[simp] theorem State.dropWrite_resets (s : State) : (s.dropWrite).resets = s.resets := rfl
@[simp] theorem State.dropWrite_busy (s : State) : (s.dropWrite).busy = s.busy := rfl
@[simp] theorem State.dropWrite_imgW (s : State) : (s.dropWrite).imgW = s.imgW := rfl
@[simp] theorem State.dropWrite_imgH (s : State) : (s.dropWrite).imgH = s.imgH := rfl
@[simp] theorem State.dropWrite_blockP (s : State) : (s.dropWrite).blockP = s.blockP := rfl
@[simp] theorem State.dropWrite_palK (s : State) : (s.dropWrite).palK = s.palK := rfl
@[simp] theorem State.dropWrite_maxPix (s : State) : (s.dropWrite).maxPix = s.maxPix := rfl

/-! ### `State.complete` (40_command_issue.md R114) -/

@[simp] theorem State.complete_done (s : State) : (s.complete).done = true := rfl
@[simp] theorem State.complete_err (s : State) : (s.complete).err = s.err := rfl
@[simp] theorem State.complete_ovr (s : State) : (s.complete).ovr = s.ovr := rfl
@[simp] theorem State.complete_errCode (s : State) : (s.complete).errCode = s.errCode := rfl
@[simp] theorem State.complete_ieDone (s : State) : (s.complete).ieDone = s.ieDone := rfl
@[simp] theorem State.complete_ieErr (s : State) : (s.complete).ieErr = s.ieErr := rfl
@[simp] theorem State.complete_ieOvr (s : State) : (s.complete).ieOvr = s.ieOvr := rfl
@[simp] theorem State.complete_width (s : State) : (s.complete).width = s.width := rfl
@[simp] theorem State.complete_height (s : State) : (s.complete).height = s.height := rfl
@[simp] theorem State.complete_block (s : State) : (s.complete).block = s.block := rfl
@[simp] theorem State.complete_palSize (s : State) : (s.complete).palSize = s.palSize := rfl
@[simp] theorem State.complete_cap (s : State) : (s.complete).cap = s.cap := rfl
@[simp] theorem State.complete_mem (s : State) : (s.complete).mem = s.mem := rfl
@[simp] theorem State.complete_pend (s : State) : (s.complete).pend = none := rfl
@[simp] theorem State.complete_ditherErr (s : State) : (s.complete).ditherErr = s.ditherErr := rfl
@[simp] theorem State.complete_rdata (s : State) : (s.complete).rdata = s.rdata := rfl
@[simp] theorem State.complete_script (s : State) : (s.complete).script = s.script := rfl
@[simp] theorem State.complete_draws (s : State) : (s.complete).draws = s.draws := rfl
@[simp] theorem State.complete_resets (s : State) : (s.complete).resets = s.resets := rfl
@[simp] theorem State.complete_imgW (s : State) : (s.complete).imgW = s.imgW := rfl
@[simp] theorem State.complete_imgH (s : State) : (s.complete).imgH = s.imgH := rfl
@[simp] theorem State.complete_blockP (s : State) : (s.complete).blockP = s.blockP := rfl
@[simp] theorem State.complete_palK (s : State) : (s.complete).palK = s.palK := rfl
@[simp] theorem State.complete_maxPix (s : State) : (s.complete).maxPix = s.maxPix := rfl

/-! ### `State.advance` (assumption log 5) -/

@[simp] theorem State.advance_done (s : State) : (s.advance).done = s.done := rfl
@[simp] theorem State.advance_err (s : State) : (s.advance).err = s.err := rfl
@[simp] theorem State.advance_ovr (s : State) : (s.advance).ovr = s.ovr := rfl
@[simp] theorem State.advance_errCode (s : State) : (s.advance).errCode = s.errCode := rfl
@[simp] theorem State.advance_ieDone (s : State) : (s.advance).ieDone = s.ieDone := rfl
@[simp] theorem State.advance_ieErr (s : State) : (s.advance).ieErr = s.ieErr := rfl
@[simp] theorem State.advance_ieOvr (s : State) : (s.advance).ieOvr = s.ieOvr := rfl
@[simp] theorem State.advance_width (s : State) : (s.advance).width = s.width := rfl
@[simp] theorem State.advance_height (s : State) : (s.advance).height = s.height := rfl
@[simp] theorem State.advance_block (s : State) : (s.advance).block = s.block := rfl
@[simp] theorem State.advance_palSize (s : State) : (s.advance).palSize = s.palSize := rfl
@[simp] theorem State.advance_cap (s : State) : (s.advance).cap = s.cap := rfl
@[simp] theorem State.advance_mem (s : State) : (s.advance).mem = s.mem := rfl
@[simp] theorem State.advance_pend (s : State) : (s.advance).pend = s.pend := rfl
@[simp] theorem State.advance_ditherErr (s : State) : (s.advance).ditherErr = s.ditherErr := rfl
@[simp] theorem State.advance_rdata (s : State) : (s.advance).rdata = s.rdata := rfl
@[simp] theorem State.advance_script (s : State) : (s.advance).script = s.script.tail := rfl
@[simp] theorem State.advance_draws (s : State) : (s.advance).draws = s.draws := rfl
@[simp] theorem State.advance_resets (s : State) : (s.advance).resets = s.resets := rfl
@[simp] theorem State.advance_busy (s : State) : (s.advance).busy = s.busy := rfl
@[simp] theorem State.advance_imgW (s : State) : (s.advance).imgW = s.imgW := rfl
@[simp] theorem State.advance_imgH (s : State) : (s.advance).imgH = s.imgH := rfl
@[simp] theorem State.advance_blockP (s : State) : (s.advance).blockP = s.blockP := rfl
@[simp] theorem State.advance_palK (s : State) : (s.advance).palK = s.palK := rfl
@[simp] theorem State.advance_maxPix (s : State) : (s.advance).maxPix = s.maxPix := rfl

/-! ### `State.readDraw` (20_memory.md R73) -/

@[simp] theorem State.readDraw_done (s : State) : (s.readDraw).done = s.done := rfl
@[simp] theorem State.readDraw_err (s : State) : (s.readDraw).err = s.err := rfl
@[simp] theorem State.readDraw_ovr (s : State) : (s.readDraw).ovr = s.ovr := rfl
@[simp] theorem State.readDraw_errCode (s : State) : (s.readDraw).errCode = s.errCode := rfl
@[simp] theorem State.readDraw_ieDone (s : State) : (s.readDraw).ieDone = s.ieDone := rfl
@[simp] theorem State.readDraw_ieErr (s : State) : (s.readDraw).ieErr = s.ieErr := rfl
@[simp] theorem State.readDraw_ieOvr (s : State) : (s.readDraw).ieOvr = s.ieOvr := rfl
@[simp] theorem State.readDraw_width (s : State) : (s.readDraw).width = s.width := rfl
@[simp] theorem State.readDraw_height (s : State) : (s.readDraw).height = s.height := rfl
@[simp] theorem State.readDraw_block (s : State) : (s.readDraw).block = s.block := rfl
@[simp] theorem State.readDraw_palSize (s : State) : (s.readDraw).palSize = s.palSize := rfl
@[simp] theorem State.readDraw_cap (s : State) : (s.readDraw).cap = s.cap := rfl
@[simp] theorem State.readDraw_mem (s : State) : (s.readDraw).mem = s.mem := rfl
@[simp] theorem State.readDraw_pend (s : State) : (s.readDraw).pend = s.pend := rfl
@[simp] theorem State.readDraw_ditherErr (s : State) : (s.readDraw).ditherErr = s.ditherErr := rfl
@[simp] theorem State.readDraw_rdata (s : State) : (s.readDraw).rdata = Config.anyWord s.draws := rfl
@[simp] theorem State.readDraw_script (s : State) : (s.readDraw).script = s.script := rfl
@[simp] theorem State.readDraw_draws (s : State) : (s.readDraw).draws = s.draws + 1 := rfl
@[simp] theorem State.readDraw_resets (s : State) : (s.readDraw).resets = s.resets := rfl
@[simp] theorem State.readDraw_busy (s : State) : (s.readDraw).busy = s.busy := rfl
@[simp] theorem State.readDraw_imgW (s : State) : (s.readDraw).imgW = s.imgW := rfl
@[simp] theorem State.readDraw_imgH (s : State) : (s.readDraw).imgH = s.imgH := rfl
@[simp] theorem State.readDraw_blockP (s : State) : (s.readDraw).blockP = s.blockP := rfl
@[simp] theorem State.readDraw_palK (s : State) : (s.readDraw).palK = s.palK := rfl
@[simp] theorem State.readDraw_maxPix (s : State) : (s.readDraw).maxPix = s.maxPix := rfl

/-! ### `State.readReturns` (20_memory.md R66) -/

@[simp] theorem State.readReturns_done (v : Word) (s : State) : (s.readReturns v).done = s.done := rfl
@[simp] theorem State.readReturns_err (v : Word) (s : State) : (s.readReturns v).err = s.err := rfl
@[simp] theorem State.readReturns_ovr (v : Word) (s : State) : (s.readReturns v).ovr = s.ovr := rfl
@[simp] theorem State.readReturns_errCode (v : Word) (s : State) : (s.readReturns v).errCode = s.errCode := rfl
@[simp] theorem State.readReturns_ieDone (v : Word) (s : State) : (s.readReturns v).ieDone = s.ieDone := rfl
@[simp] theorem State.readReturns_ieErr (v : Word) (s : State) : (s.readReturns v).ieErr = s.ieErr := rfl
@[simp] theorem State.readReturns_ieOvr (v : Word) (s : State) : (s.readReturns v).ieOvr = s.ieOvr := rfl
@[simp] theorem State.readReturns_width (v : Word) (s : State) : (s.readReturns v).width = s.width := rfl
@[simp] theorem State.readReturns_height (v : Word) (s : State) : (s.readReturns v).height = s.height := rfl
@[simp] theorem State.readReturns_block (v : Word) (s : State) : (s.readReturns v).block = s.block := rfl
@[simp] theorem State.readReturns_palSize (v : Word) (s : State) : (s.readReturns v).palSize = s.palSize := rfl
@[simp] theorem State.readReturns_cap (v : Word) (s : State) : (s.readReturns v).cap = s.cap := rfl
@[simp] theorem State.readReturns_mem (v : Word) (s : State) : (s.readReturns v).mem = s.mem := rfl
@[simp] theorem State.readReturns_pend (v : Word) (s : State) : (s.readReturns v).pend = s.pend := rfl
@[simp] theorem State.readReturns_ditherErr (v : Word) (s : State) : (s.readReturns v).ditherErr = s.ditherErr := rfl
@[simp] theorem State.readReturns_rdata (v : Word) (s : State) : (s.readReturns v).rdata = v := rfl
@[simp] theorem State.readReturns_script (v : Word) (s : State) : (s.readReturns v).script = s.script := rfl
@[simp] theorem State.readReturns_draws (v : Word) (s : State) : (s.readReturns v).draws = s.draws := rfl
@[simp] theorem State.readReturns_resets (v : Word) (s : State) : (s.readReturns v).resets = s.resets := rfl
@[simp] theorem State.readReturns_busy (v : Word) (s : State) : (s.readReturns v).busy = s.busy := rfl
@[simp] theorem State.readReturns_imgW (v : Word) (s : State) : (s.readReturns v).imgW = s.imgW := rfl
@[simp] theorem State.readReturns_imgH (v : Word) (s : State) : (s.readReturns v).imgH = s.imgH := rfl
@[simp] theorem State.readReturns_blockP (v : Word) (s : State) : (s.readReturns v).blockP = s.blockP := rfl
@[simp] theorem State.readReturns_palK (v : Word) (s : State) : (s.readReturns v).palK = s.palK := rfl
@[simp] theorem State.readReturns_maxPix (v : Word) (s : State) : (s.readReturns v).maxPix = s.maxPix := rfl

/-! ### `State.setWidthReg` (10_state.md R25) -/

@[simp] theorem State.setWidthReg_done (v : Word) (s : State) : (s.setWidthReg v).done = s.done := rfl
@[simp] theorem State.setWidthReg_err (v : Word) (s : State) : (s.setWidthReg v).err = s.err := rfl
@[simp] theorem State.setWidthReg_ovr (v : Word) (s : State) : (s.setWidthReg v).ovr = s.ovr := rfl
@[simp] theorem State.setWidthReg_errCode (v : Word) (s : State) : (s.setWidthReg v).errCode = s.errCode := rfl
@[simp] theorem State.setWidthReg_ieDone (v : Word) (s : State) : (s.setWidthReg v).ieDone = s.ieDone := rfl
@[simp] theorem State.setWidthReg_ieErr (v : Word) (s : State) : (s.setWidthReg v).ieErr = s.ieErr := rfl
@[simp] theorem State.setWidthReg_ieOvr (v : Word) (s : State) : (s.setWidthReg v).ieOvr = s.ieOvr := rfl
@[simp] theorem State.setWidthReg_width (v : Word) (s : State) : (s.setWidthReg v).width = v.extractLsb' 0 16 := rfl
@[simp] theorem State.setWidthReg_height (v : Word) (s : State) : (s.setWidthReg v).height = s.height := rfl
@[simp] theorem State.setWidthReg_block (v : Word) (s : State) : (s.setWidthReg v).block = s.block := rfl
@[simp] theorem State.setWidthReg_palSize (v : Word) (s : State) : (s.setWidthReg v).palSize = s.palSize := rfl
@[simp] theorem State.setWidthReg_cap (v : Word) (s : State) : (s.setWidthReg v).cap = s.cap := rfl
@[simp] theorem State.setWidthReg_mem (v : Word) (s : State) : (s.setWidthReg v).mem = s.mem := rfl
@[simp] theorem State.setWidthReg_pend (v : Word) (s : State) : (s.setWidthReg v).pend = s.pend := rfl
@[simp] theorem State.setWidthReg_ditherErr (v : Word) (s : State) : (s.setWidthReg v).ditherErr = s.ditherErr := rfl
@[simp] theorem State.setWidthReg_rdata (v : Word) (s : State) : (s.setWidthReg v).rdata = s.rdata := rfl
@[simp] theorem State.setWidthReg_script (v : Word) (s : State) : (s.setWidthReg v).script = s.script := rfl
@[simp] theorem State.setWidthReg_draws (v : Word) (s : State) : (s.setWidthReg v).draws = s.draws := rfl
@[simp] theorem State.setWidthReg_resets (v : Word) (s : State) : (s.setWidthReg v).resets = s.resets := rfl
@[simp] theorem State.setWidthReg_busy (v : Word) (s : State) : (s.setWidthReg v).busy = s.busy := rfl
@[simp] theorem State.setWidthReg_imgH (v : Word) (s : State) : (s.setWidthReg v).imgH = s.imgH := rfl
@[simp] theorem State.setWidthReg_blockP (v : Word) (s : State) : (s.setWidthReg v).blockP = s.blockP := rfl
@[simp] theorem State.setWidthReg_palK (v : Word) (s : State) : (s.setWidthReg v).palK = s.palK := rfl
@[simp] theorem State.setWidthReg_maxPix (v : Word) (s : State) : (s.setWidthReg v).maxPix = s.maxPix := rfl

/-! ### `State.setHeightReg` (10_state.md R26) -/

@[simp] theorem State.setHeightReg_done (v : Word) (s : State) : (s.setHeightReg v).done = s.done := rfl
@[simp] theorem State.setHeightReg_err (v : Word) (s : State) : (s.setHeightReg v).err = s.err := rfl
@[simp] theorem State.setHeightReg_ovr (v : Word) (s : State) : (s.setHeightReg v).ovr = s.ovr := rfl
@[simp] theorem State.setHeightReg_errCode (v : Word) (s : State) : (s.setHeightReg v).errCode = s.errCode := rfl
@[simp] theorem State.setHeightReg_ieDone (v : Word) (s : State) : (s.setHeightReg v).ieDone = s.ieDone := rfl
@[simp] theorem State.setHeightReg_ieErr (v : Word) (s : State) : (s.setHeightReg v).ieErr = s.ieErr := rfl
@[simp] theorem State.setHeightReg_ieOvr (v : Word) (s : State) : (s.setHeightReg v).ieOvr = s.ieOvr := rfl
@[simp] theorem State.setHeightReg_width (v : Word) (s : State) : (s.setHeightReg v).width = s.width := rfl
@[simp] theorem State.setHeightReg_height (v : Word) (s : State) : (s.setHeightReg v).height = v.extractLsb' 0 16 := rfl
@[simp] theorem State.setHeightReg_block (v : Word) (s : State) : (s.setHeightReg v).block = s.block := rfl
@[simp] theorem State.setHeightReg_palSize (v : Word) (s : State) : (s.setHeightReg v).palSize = s.palSize := rfl
@[simp] theorem State.setHeightReg_cap (v : Word) (s : State) : (s.setHeightReg v).cap = s.cap := rfl
@[simp] theorem State.setHeightReg_mem (v : Word) (s : State) : (s.setHeightReg v).mem = s.mem := rfl
@[simp] theorem State.setHeightReg_pend (v : Word) (s : State) : (s.setHeightReg v).pend = s.pend := rfl
@[simp] theorem State.setHeightReg_ditherErr (v : Word) (s : State) : (s.setHeightReg v).ditherErr = s.ditherErr := rfl
@[simp] theorem State.setHeightReg_rdata (v : Word) (s : State) : (s.setHeightReg v).rdata = s.rdata := rfl
@[simp] theorem State.setHeightReg_script (v : Word) (s : State) : (s.setHeightReg v).script = s.script := rfl
@[simp] theorem State.setHeightReg_draws (v : Word) (s : State) : (s.setHeightReg v).draws = s.draws := rfl
@[simp] theorem State.setHeightReg_resets (v : Word) (s : State) : (s.setHeightReg v).resets = s.resets := rfl
@[simp] theorem State.setHeightReg_busy (v : Word) (s : State) : (s.setHeightReg v).busy = s.busy := rfl
@[simp] theorem State.setHeightReg_imgW (v : Word) (s : State) : (s.setHeightReg v).imgW = s.imgW := rfl
@[simp] theorem State.setHeightReg_blockP (v : Word) (s : State) : (s.setHeightReg v).blockP = s.blockP := rfl
@[simp] theorem State.setHeightReg_palK (v : Word) (s : State) : (s.setHeightReg v).palK = s.palK := rfl
@[simp] theorem State.setHeightReg_maxPix (v : Word) (s : State) : (s.setHeightReg v).maxPix = s.maxPix := rfl

/-! ### `State.setBlockReg` (10_state.md R27) -/

@[simp] theorem State.setBlockReg_done (v : Word) (s : State) : (s.setBlockReg v).done = s.done := rfl
@[simp] theorem State.setBlockReg_err (v : Word) (s : State) : (s.setBlockReg v).err = s.err := rfl
@[simp] theorem State.setBlockReg_ovr (v : Word) (s : State) : (s.setBlockReg v).ovr = s.ovr := rfl
@[simp] theorem State.setBlockReg_errCode (v : Word) (s : State) : (s.setBlockReg v).errCode = s.errCode := rfl
@[simp] theorem State.setBlockReg_ieDone (v : Word) (s : State) : (s.setBlockReg v).ieDone = s.ieDone := rfl
@[simp] theorem State.setBlockReg_ieErr (v : Word) (s : State) : (s.setBlockReg v).ieErr = s.ieErr := rfl
@[simp] theorem State.setBlockReg_ieOvr (v : Word) (s : State) : (s.setBlockReg v).ieOvr = s.ieOvr := rfl
@[simp] theorem State.setBlockReg_width (v : Word) (s : State) : (s.setBlockReg v).width = s.width := rfl
@[simp] theorem State.setBlockReg_height (v : Word) (s : State) : (s.setBlockReg v).height = s.height := rfl
@[simp] theorem State.setBlockReg_block (v : Word) (s : State) : (s.setBlockReg v).block = v.extractLsb' 0 16 := rfl
@[simp] theorem State.setBlockReg_palSize (v : Word) (s : State) : (s.setBlockReg v).palSize = s.palSize := rfl
@[simp] theorem State.setBlockReg_cap (v : Word) (s : State) : (s.setBlockReg v).cap = s.cap := rfl
@[simp] theorem State.setBlockReg_mem (v : Word) (s : State) : (s.setBlockReg v).mem = s.mem := rfl
@[simp] theorem State.setBlockReg_pend (v : Word) (s : State) : (s.setBlockReg v).pend = s.pend := rfl
@[simp] theorem State.setBlockReg_ditherErr (v : Word) (s : State) : (s.setBlockReg v).ditherErr = s.ditherErr := rfl
@[simp] theorem State.setBlockReg_rdata (v : Word) (s : State) : (s.setBlockReg v).rdata = s.rdata := rfl
@[simp] theorem State.setBlockReg_script (v : Word) (s : State) : (s.setBlockReg v).script = s.script := rfl
@[simp] theorem State.setBlockReg_draws (v : Word) (s : State) : (s.setBlockReg v).draws = s.draws := rfl
@[simp] theorem State.setBlockReg_resets (v : Word) (s : State) : (s.setBlockReg v).resets = s.resets := rfl
@[simp] theorem State.setBlockReg_busy (v : Word) (s : State) : (s.setBlockReg v).busy = s.busy := rfl
@[simp] theorem State.setBlockReg_imgW (v : Word) (s : State) : (s.setBlockReg v).imgW = s.imgW := rfl
@[simp] theorem State.setBlockReg_imgH (v : Word) (s : State) : (s.setBlockReg v).imgH = s.imgH := rfl
@[simp] theorem State.setBlockReg_palK (v : Word) (s : State) : (s.setBlockReg v).palK = s.palK := rfl
@[simp] theorem State.setBlockReg_maxPix (v : Word) (s : State) : (s.setBlockReg v).maxPix = s.maxPix := rfl

/-! ### `State.setPalSizeReg` (10_state.md R28) -/

@[simp] theorem State.setPalSizeReg_done (v : Word) (s : State) : (s.setPalSizeReg v).done = s.done := rfl
@[simp] theorem State.setPalSizeReg_err (v : Word) (s : State) : (s.setPalSizeReg v).err = s.err := rfl
@[simp] theorem State.setPalSizeReg_ovr (v : Word) (s : State) : (s.setPalSizeReg v).ovr = s.ovr := rfl
@[simp] theorem State.setPalSizeReg_errCode (v : Word) (s : State) : (s.setPalSizeReg v).errCode = s.errCode := rfl
@[simp] theorem State.setPalSizeReg_ieDone (v : Word) (s : State) : (s.setPalSizeReg v).ieDone = s.ieDone := rfl
@[simp] theorem State.setPalSizeReg_ieErr (v : Word) (s : State) : (s.setPalSizeReg v).ieErr = s.ieErr := rfl
@[simp] theorem State.setPalSizeReg_ieOvr (v : Word) (s : State) : (s.setPalSizeReg v).ieOvr = s.ieOvr := rfl
@[simp] theorem State.setPalSizeReg_width (v : Word) (s : State) : (s.setPalSizeReg v).width = s.width := rfl
@[simp] theorem State.setPalSizeReg_height (v : Word) (s : State) : (s.setPalSizeReg v).height = s.height := rfl
@[simp] theorem State.setPalSizeReg_block (v : Word) (s : State) : (s.setPalSizeReg v).block = s.block := rfl
@[simp] theorem State.setPalSizeReg_palSize (v : Word) (s : State) : (s.setPalSizeReg v).palSize = v.extractLsb' 0 9 := rfl
@[simp] theorem State.setPalSizeReg_cap (v : Word) (s : State) : (s.setPalSizeReg v).cap = s.cap := rfl
@[simp] theorem State.setPalSizeReg_mem (v : Word) (s : State) : (s.setPalSizeReg v).mem = s.mem := rfl
@[simp] theorem State.setPalSizeReg_pend (v : Word) (s : State) : (s.setPalSizeReg v).pend = s.pend := rfl
@[simp] theorem State.setPalSizeReg_ditherErr (v : Word) (s : State) : (s.setPalSizeReg v).ditherErr = s.ditherErr := rfl
@[simp] theorem State.setPalSizeReg_rdata (v : Word) (s : State) : (s.setPalSizeReg v).rdata = s.rdata := rfl
@[simp] theorem State.setPalSizeReg_script (v : Word) (s : State) : (s.setPalSizeReg v).script = s.script := rfl
@[simp] theorem State.setPalSizeReg_draws (v : Word) (s : State) : (s.setPalSizeReg v).draws = s.draws := rfl
@[simp] theorem State.setPalSizeReg_resets (v : Word) (s : State) : (s.setPalSizeReg v).resets = s.resets := rfl
@[simp] theorem State.setPalSizeReg_busy (v : Word) (s : State) : (s.setPalSizeReg v).busy = s.busy := rfl
@[simp] theorem State.setPalSizeReg_imgW (v : Word) (s : State) : (s.setPalSizeReg v).imgW = s.imgW := rfl
@[simp] theorem State.setPalSizeReg_imgH (v : Word) (s : State) : (s.setPalSizeReg v).imgH = s.imgH := rfl
@[simp] theorem State.setPalSizeReg_blockP (v : Word) (s : State) : (s.setPalSizeReg v).blockP = s.blockP := rfl
@[simp] theorem State.setPalSizeReg_maxPix (v : Word) (s : State) : (s.setPalSizeReg v).maxPix = s.maxPix := rfl

/-! ### `State.zeroErr` (42_ditherer.md R152) -/

@[simp] theorem State.zeroErr_done (s : State) : (s.zeroErr).done = s.done := rfl
@[simp] theorem State.zeroErr_err (s : State) : (s.zeroErr).err = s.err := rfl
@[simp] theorem State.zeroErr_ovr (s : State) : (s.zeroErr).ovr = s.ovr := rfl
@[simp] theorem State.zeroErr_errCode (s : State) : (s.zeroErr).errCode = s.errCode := rfl
@[simp] theorem State.zeroErr_ieDone (s : State) : (s.zeroErr).ieDone = s.ieDone := rfl
@[simp] theorem State.zeroErr_ieErr (s : State) : (s.zeroErr).ieErr = s.ieErr := rfl
@[simp] theorem State.zeroErr_ieOvr (s : State) : (s.zeroErr).ieOvr = s.ieOvr := rfl
@[simp] theorem State.zeroErr_width (s : State) : (s.zeroErr).width = s.width := rfl
@[simp] theorem State.zeroErr_height (s : State) : (s.zeroErr).height = s.height := rfl
@[simp] theorem State.zeroErr_block (s : State) : (s.zeroErr).block = s.block := rfl
@[simp] theorem State.zeroErr_palSize (s : State) : (s.zeroErr).palSize = s.palSize := rfl
@[simp] theorem State.zeroErr_cap (s : State) : (s.zeroErr).cap = s.cap := rfl
@[simp] theorem State.zeroErr_mem (s : State) : (s.zeroErr).mem = s.mem := rfl
@[simp] theorem State.zeroErr_pend (s : State) : (s.zeroErr).pend = s.pend := rfl
@[simp] theorem State.zeroErr_ditherErr (s : State) : (s.zeroErr).ditherErr = List.replicate (s.imgW * s.imgH) Vec3.zero := rfl
@[simp] theorem State.zeroErr_rdata (s : State) : (s.zeroErr).rdata = s.rdata := rfl
@[simp] theorem State.zeroErr_script (s : State) : (s.zeroErr).script = s.script := rfl
@[simp] theorem State.zeroErr_draws (s : State) : (s.zeroErr).draws = s.draws := rfl
@[simp] theorem State.zeroErr_resets (s : State) : (s.zeroErr).resets = s.resets := rfl
@[simp] theorem State.zeroErr_busy (s : State) : (s.zeroErr).busy = s.busy := rfl
@[simp] theorem State.zeroErr_imgW (s : State) : (s.zeroErr).imgW = s.imgW := rfl
@[simp] theorem State.zeroErr_imgH (s : State) : (s.zeroErr).imgH = s.imgH := rfl
@[simp] theorem State.zeroErr_blockP (s : State) : (s.zeroErr).blockP = s.blockP := rfl
@[simp] theorem State.zeroErr_palK (s : State) : (s.zeroErr).palK = s.palK := rfl
@[simp] theorem State.zeroErr_maxPix (s : State) : (s.zeroErr).maxPix = s.maxPix := rfl

/-! ### `State.addErr` (42_ditherer.md R158) -/

@[simp] theorem State.addErr_done (c : Bool) (x y : Nat) (w : Int) (v : Vec3) (s : State) : (s.addErr c x y w v).done = s.done := rfl
@[simp] theorem State.addErr_err (c : Bool) (x y : Nat) (w : Int) (v : Vec3) (s : State) : (s.addErr c x y w v).err = s.err := rfl
@[simp] theorem State.addErr_ovr (c : Bool) (x y : Nat) (w : Int) (v : Vec3) (s : State) : (s.addErr c x y w v).ovr = s.ovr := rfl
@[simp] theorem State.addErr_errCode (c : Bool) (x y : Nat) (w : Int) (v : Vec3) (s : State) : (s.addErr c x y w v).errCode = s.errCode := rfl
@[simp] theorem State.addErr_ieDone (c : Bool) (x y : Nat) (w : Int) (v : Vec3) (s : State) : (s.addErr c x y w v).ieDone = s.ieDone := rfl
@[simp] theorem State.addErr_ieErr (c : Bool) (x y : Nat) (w : Int) (v : Vec3) (s : State) : (s.addErr c x y w v).ieErr = s.ieErr := rfl
@[simp] theorem State.addErr_ieOvr (c : Bool) (x y : Nat) (w : Int) (v : Vec3) (s : State) : (s.addErr c x y w v).ieOvr = s.ieOvr := rfl
@[simp] theorem State.addErr_width (c : Bool) (x y : Nat) (w : Int) (v : Vec3) (s : State) : (s.addErr c x y w v).width = s.width := rfl
@[simp] theorem State.addErr_height (c : Bool) (x y : Nat) (w : Int) (v : Vec3) (s : State) : (s.addErr c x y w v).height = s.height := rfl
@[simp] theorem State.addErr_block (c : Bool) (x y : Nat) (w : Int) (v : Vec3) (s : State) : (s.addErr c x y w v).block = s.block := rfl
@[simp] theorem State.addErr_palSize (c : Bool) (x y : Nat) (w : Int) (v : Vec3) (s : State) : (s.addErr c x y w v).palSize = s.palSize := rfl
@[simp] theorem State.addErr_cap (c : Bool) (x y : Nat) (w : Int) (v : Vec3) (s : State) : (s.addErr c x y w v).cap = s.cap := rfl
@[simp] theorem State.addErr_mem (c : Bool) (x y : Nat) (w : Int) (v : Vec3) (s : State) : (s.addErr c x y w v).mem = s.mem := rfl
@[simp] theorem State.addErr_pend (c : Bool) (x y : Nat) (w : Int) (v : Vec3) (s : State) : (s.addErr c x y w v).pend = s.pend := rfl
@[simp] theorem State.addErr_ditherErr (c : Bool) (x y : Nat) (w : Int) (v : Vec3) (s : State) : (s.addErr c x y w v).ditherErr = (if c then s.ditherErr.modify (s.pixelIndex x y) (fun e => e.add (v.smul w)) else s.ditherErr) := rfl
@[simp] theorem State.addErr_rdata (c : Bool) (x y : Nat) (w : Int) (v : Vec3) (s : State) : (s.addErr c x y w v).rdata = s.rdata := rfl
@[simp] theorem State.addErr_script (c : Bool) (x y : Nat) (w : Int) (v : Vec3) (s : State) : (s.addErr c x y w v).script = s.script := rfl
@[simp] theorem State.addErr_draws (c : Bool) (x y : Nat) (w : Int) (v : Vec3) (s : State) : (s.addErr c x y w v).draws = s.draws := rfl
@[simp] theorem State.addErr_resets (c : Bool) (x y : Nat) (w : Int) (v : Vec3) (s : State) : (s.addErr c x y w v).resets = s.resets := rfl
@[simp] theorem State.addErr_busy (c : Bool) (x y : Nat) (w : Int) (v : Vec3) (s : State) : (s.addErr c x y w v).busy = s.busy := rfl
@[simp] theorem State.addErr_imgW (c : Bool) (x y : Nat) (w : Int) (v : Vec3) (s : State) : (s.addErr c x y w v).imgW = s.imgW := rfl
@[simp] theorem State.addErr_imgH (c : Bool) (x y : Nat) (w : Int) (v : Vec3) (s : State) : (s.addErr c x y w v).imgH = s.imgH := rfl
@[simp] theorem State.addErr_blockP (c : Bool) (x y : Nat) (w : Int) (v : Vec3) (s : State) : (s.addErr c x y w v).blockP = s.blockP := rfl
@[simp] theorem State.addErr_palK (c : Bool) (x y : Nat) (w : Int) (v : Vec3) (s : State) : (s.addErr c x y w v).palK = s.palK := rfl
@[simp] theorem State.addErr_maxPix (c : Bool) (x y : Nat) (w : Int) (v : Vec3) (s : State) : (s.addErr c x y w v).maxPix = s.maxPix := rfl

/-! ### `State.resetEvent` (70_reset_and_hazards.md R220) -/

@[simp] theorem State.resetEvent_done (s : State) : (s.resetEvent).done = false := rfl
@[simp] theorem State.resetEvent_err (s : State) : (s.resetEvent).err = false := rfl
@[simp] theorem State.resetEvent_ovr (s : State) : (s.resetEvent).ovr = false := rfl
@[simp] theorem State.resetEvent_errCode (s : State) : (s.resetEvent).errCode = .none := rfl
@[simp] theorem State.resetEvent_ieDone (s : State) : (s.resetEvent).ieDone = false := rfl
@[simp] theorem State.resetEvent_ieErr (s : State) : (s.resetEvent).ieErr = false := rfl
@[simp] theorem State.resetEvent_ieOvr (s : State) : (s.resetEvent).ieOvr = false := rfl
@[simp] theorem State.resetEvent_width (s : State) : (s.resetEvent).width = 0#16 := rfl
@[simp] theorem State.resetEvent_height (s : State) : (s.resetEvent).height = 0#16 := rfl
@[simp] theorem State.resetEvent_block (s : State) : (s.resetEvent).block = 8#16 := rfl
@[simp] theorem State.resetEvent_palSize (s : State) : (s.resetEvent).palSize = 8#9 := rfl
@[simp] theorem State.resetEvent_cap (s : State) : (s.resetEvent).cap = s.cap := rfl
@[simp] theorem State.resetEvent_mem (s : State) : (s.resetEvent).mem = [] := rfl
@[simp] theorem State.resetEvent_pend (s : State) : (s.resetEvent).pend = none := rfl
@[simp] theorem State.resetEvent_ditherErr (s : State) : (s.resetEvent).ditherErr = [] := rfl
@[simp] theorem State.resetEvent_rdata (s : State) : (s.resetEvent).rdata = s.rdata := rfl
@[simp] theorem State.resetEvent_script (s : State) : (s.resetEvent).script = s.script := rfl
@[simp] theorem State.resetEvent_draws (s : State) : (s.resetEvent).draws = s.draws := rfl
@[simp] theorem State.resetEvent_resets (s : State) : (s.resetEvent).resets = s.resets + 1 := rfl
@[simp] theorem State.resetEvent_maxPix (s : State) : (s.resetEvent).maxPix = s.maxPix := rfl

@[simp] theorem State.accept_busy (i : Instr) (s : State) : (s.accept i).busy = true := rfl
@[simp] theorem State.complete_busy (s : State) : s.complete.busy = false := rfl

end Sys2Proof.Machine
end

