-- ==== Sys2Proof/Laws/Memory.lean ====
section
/-! SUPPORT. The laws of the memory operations: read after write, everything else left alone, and the canonical form
kept (10_state.md R30, R31; 20_memory.md R61, R62). -/

namespace Sys2Proof.Machine

/-! ### Words and their channels -/

theorem colourOf_channels (q : Colour) : colourOf (redOf q) (greenOf q) (blueOf q) = q := by
  unfold colourOf redOf greenOf blueOf
  apply BitVec.eq_of_getLsbD_eq
  intro i hi
  simp only [BitVec.getLsbD_append, BitVec.getLsbD_extractLsb']
  by_cases h8 : i < 8
  · simp [h8]
  · by_cases h16 : i - 8 < 8
    · simp [h8, h16, show 8 + (i - 8) = i by omega]
    · simp [h8, h16, show i - 8 - 8 < 8 by omega, show 16 + (i - 8 - 8) = i by omega]

theorem alphaOf_append_rgbOf (p : Word) : alphaOf p ++ rgbOf p = p := by
  unfold alphaOf rgbOf
  apply BitVec.eq_of_getLsbD_eq
  intro i hi
  simp only [BitVec.getLsbD_append, BitVec.getLsbD_extractLsb']
  by_cases h : i < 24
  · simp [h]
  · simp [h, show i - 24 < 8 by omega, show 24 + (i - 24) = i by omega]

theorem getLsbD_emit (q : Colour) (p : Word) (i : Nat) :
    (emit q p).getLsbD i = if i < 24 then q.getLsbD i else (alphaOf p).getLsbD (i - 24) :=
  BitVec.getLsbD_append

@[simp] theorem rgbOf_emit (q : Colour) (p : Word) : rgbOf (emit q p) = q := by
  apply BitVec.eq_of_getLsbD_eq
  intro i hi
  rw [rgbOf, BitVec.getLsbD_extractLsb', getLsbD_emit]
  simp [hi]

@[simp] theorem alphaOf_emit (q : Colour) (p : Word) : alphaOf (emit q p) = alphaOf p := by
  apply BitVec.eq_of_getLsbD_eq
  intro i hi
  rw [alphaOf, BitVec.getLsbD_extractLsb', getLsbD_emit]
  simp [hi]

@[simp] theorem emit_emit (q q' : Colour) (p : Word) : emit q (emit q' p) = emit q p := by
  rw [emit, alphaOf_emit, emit]

@[simp] theorem emit_rgbOf (p : Word) : emit (rgbOf p) p = p := alphaOf_append_rgbOf p

/-! ### Lookup after insert -/

@[simp] theorem Memory.lookup_insert_self (m : Memory) (a : Nat) (b : Byte) :
    Memory.lookup (m.insert a b) a = some b := by
  induction m with
  | nil => simp [Memory.insert, Memory.lookup]
  | cons c rest ih =>
    obtain ⟨k, d⟩ := c
    unfold Memory.insert
    split
    · simp [Memory.lookup]
    · split
      · simp [Memory.lookup]
      · next h1 h2 => simp [Memory.lookup, show k ≠ a by omega, ih]

theorem Memory.lookup_insert_ne (m : Memory) {a a' : Nat} (b : Byte) (h : a' ≠ a) :
    Memory.lookup (m.insert a b) a' = m.lookup a' := by
  induction m with
  | nil => simp [Memory.insert, Memory.lookup, h.symm]
  | cons c rest ih =>
    obtain ⟨k, d⟩ := c
    unfold Memory.insert
    split
    · simp [Memory.lookup, h.symm]
    · split
      · next h1 h2 => subst h2; simp [Memory.lookup, h.symm]
      · simp [Memory.lookup, ih]

/-! ### The canonical form -/

theorem Memory.mem_insert {m : Memory} {a : Nat} {b : Byte} {c : Host.Cell} (h : c ∈ m.insert a b) :
    c = (a, b) ∨ c ∈ m := by
  induction m with
  | nil => simpa [Memory.insert] using h
  | cons d rest ih =>
    obtain ⟨k, e⟩ := d
    unfold Memory.insert at h
    split at h
    · simpa using h
    · split at h
      · rcases List.mem_cons.1 h with h | h
        · exact .inl h
        · exact .inr (List.mem_cons_of_mem _ h)
      · rcases List.mem_cons.1 h with h | h
        · exact .inr (h ▸ List.mem_cons_self)
        · exact (ih h).imp id (List.mem_cons_of_mem _)

theorem Memory.insert_wf {m : Memory} (h : m.wf) (a : Nat) (b : Byte) : Memory.wf (m.insert a b) := by
  induction m with
  | nil => simp [Memory.insert, Memory.wf]
  | cons d rest ih =>
    obtain ⟨k, e⟩ := d
    obtain ⟨hd, hr⟩ := List.pairwise_cons.1 h
    unfold Memory.insert
    split
    · next hlt =>
      refine List.pairwise_cons.2 ⟨?_, h⟩
      intro c hc
      rcases List.mem_cons.1 hc with rfl | hc
      · exact hlt
      · exact Nat.lt_trans hlt (hd c hc)
    · split
      · next heq => subst heq; exact List.pairwise_cons.2 ⟨hd, hr⟩
      · next h1 h2 =>
        refine List.pairwise_cons.2 ⟨?_, ih hr⟩
        intro c hc
        rcases Memory.mem_insert hc with rfl | hc
        · simp only; omega
        · exact hd c hc

theorem Memory.storeColour_wf {m : Memory} (h : m.wf) (a : Nat) (q : Colour) : Memory.wf (m.storeColour a q) :=
  Memory.insert_wf (Memory.insert_wf (Memory.insert_wf h _ _) _ _) _ _

theorem Memory.storePixel_wf {m : Memory} (h : m.wf) (a : Nat) (p : Word) : Memory.wf (m.storePixel a p) :=
  Memory.insert_wf (Memory.storeColour_wf h _ _) _ _

theorem State.setPalEntry_wf {s : State} (h : s.mem.wf) (j : Nat) (q : Colour) : (s.setPalEntry j q).mem.wf := by
  rw [State.setPalEntry_mem]
  split
  · exact Memory.storeColour_wf h _ _
  · exact h

theorem State.setPixel_wf {s : State} (h : s.mem.wf) (i : Nat) (p : Word) : (s.setPixel i p).mem.wf := by
  rw [State.setPixel_mem]
  split
  · exact Memory.storePixel_wf h _ _
  · exact h

theorem State.recolour_wf {s : State} (h : s.mem.wf) (q : Colour) (i : Nat) : (s.recolour q i).mem.wf :=
  State.setPixel_wf h _ _

theorem State.reset_mem_wf : State.reset.mem.wf := List.Pairwise.nil

/-- The bytes that storing a colour lists besides those already listed. -/
theorem Memory.mem_storeColour {m : Memory} {a : Nat} {q : Colour} {c : Host.Cell} (h : c ∈ m.storeColour a q) :
    c ∈ m ∨ a ≤ c.1 ∧ c.1 < a + 3 := by
  rcases Memory.mem_insert h with rfl | h
  · exact .inr ⟨by simp only; omega, by simp only; omega⟩
  rcases Memory.mem_insert h with rfl | h
  · exact .inr ⟨by simp only; omega, by simp only; omega⟩
  rcases Memory.mem_insert h with rfl | h
  · exact .inr ⟨by simp only; omega, by simp only; omega⟩
  · exact .inl h

/-- The bytes that storing a pixel word lists besides those already listed. -/
theorem Memory.mem_storePixel {m : Memory} {a : Nat} {p : Word} {c : Host.Cell} (h : c ∈ m.storePixel a p) :
    c ∈ m ∨ a ≤ c.1 ∧ c.1 < a + 4 := by
  rcases Memory.mem_insert h with rfl | h
  · exact .inr ⟨by simp only; omega, by simp only; omega⟩
  · exact (Memory.mem_storeColour h).imp id (fun ⟨h1, h2⟩ => ⟨h1, by omega⟩)

theorem State.setPixel_memLegal {s : State} (h : s.memLegal) (i : Nat) (p : Word) : (s.setPixel i p).memLegal := by
  refine ⟨State.setPixel_wf h.1 i p, ?_⟩
  intro c hc
  rw [State.setPixel_mem] at hc
  rw [State.setPixel_maxPix]
  split at hc
  · next hi =>
    rcases Memory.mem_storePixel hc with hc | ⟨h1, h2⟩
    · exact h.2 c hc
    · unfold frameOffset at h1 h2
      simp only [holdsByte, Bool.or_eq_true, Bool.and_eq_true, decide_eq_true_eq]
      right; omega
  · exact h.2 c hc

theorem State.setPalEntry_memLegal {s : State} (h : s.memLegal) (j : Nat) (q : Colour) :
    (s.setPalEntry j q).memLegal := by
  refine ⟨State.setPalEntry_wf h.1 j q, ?_⟩
  intro c hc
  rw [State.setPalEntry_mem] at hc
  rw [State.setPalEntry_maxPix]
  split at hc
  · next hj =>
    rcases Memory.mem_storeColour hc with hc | ⟨h1, h2⟩
    · exact h.2 c hc
    · unfold palOffset at h1 h2
      simp only [holdsByte, Bool.or_eq_true, Bool.and_eq_true, decide_eq_true_eq]
      left; omega
  · exact h.2 c hc

/-! ### Bytes, pixels and palette entries after a write -/

theorem Memory.lookup_storeColour_outside (m : Memory) {a a' : Nat} (q : Colour) (h : a' < a ∨ a + 3 ≤ a') :
    Memory.lookup (m.storeColour a q) a' = m.lookup a' := by
  unfold Memory.storeColour
  rw [Memory.lookup_insert_ne _ _ (by omega), Memory.lookup_insert_ne _ _ (by omega),
    Memory.lookup_insert_ne _ _ (by omega)]

theorem Memory.lookup_storePixel_outside (m : Memory) {a a' : Nat} (p : Word) (h : a' < a ∨ a + 4 ≤ a') :
    Memory.lookup (m.storePixel a p) a' = m.lookup a' := by
  unfold Memory.storePixel
  rw [Memory.lookup_insert_ne _ _ (by omega), Memory.lookup_storeColour_outside _ _ (by omega)]

theorem State.unlistedByte_congr {s t : State} (hc : t.cap = s.cap) (hr : t.resets = s.resets) (a : Nat) :
    t.unlistedByte a = s.unlistedByte a := by
  unfold State.unlistedByte State.maxPix
  rw [hc, hr]

/-- A byte depends on the memory, the capacity and the number of resets alone. -/
theorem State.byteAt_congr {s t : State} (hm : t.mem = s.mem) (hc : t.cap = s.cap) (hr : t.resets = s.resets)
    (a : Nat) : t.byteAt a = s.byteAt a := by
  unfold State.byteAt
  rw [hm, State.unlistedByte_congr hc hr]

theorem State.pixel_congr {s t : State} (h : ∀ a, t.byteAt a = s.byteAt a) (i : Nat) : t.pixel i = s.pixel i := by
  simp [State.pixel, h]

theorem State.palEntry_congr {s t : State} (h : ∀ a, t.byteAt a = s.byteAt a) (j : Nat) :
    t.palEntry j = s.palEntry j := by
  simp [State.palEntry, h]

/-- A FRAME write leaves every byte outside its entry alone. -/
theorem State.byteAt_setPixel_outside (s : State) (i : Nat) (p : Word) {a : Nat}
    (h : a < frameOffset i ∨ frameOffset i + 4 ≤ a) : (s.setPixel i p).byteAt a = s.byteAt a := by
  unfold State.byteAt
  rw [State.unlistedByte_congr (State.setPixel_cap i p s) (State.setPixel_resets i p s), State.setPixel_mem]
  rw [apply_ite (fun m => Memory.lookup m a), Memory.lookup_storePixel_outside _ _ h, ite_self]

/-- A PAL write leaves every byte outside its entry's three alone. -/
theorem State.byteAt_setPalEntry_outside (s : State) (j : Nat) (q : Colour) {a : Nat}
    (h : a < palOffset j ∨ palOffset j + 3 ≤ a) : (s.setPalEntry j q).byteAt a = s.byteAt a := by
  unfold State.byteAt
  rw [State.unlistedByte_congr (State.setPalEntry_cap j q s) (State.setPalEntry_resets j q s),
    State.setPalEntry_mem]
  rw [apply_ite (fun m => Memory.lookup m a), Memory.lookup_storeColour_outside _ _ h, ite_self]

theorem State.byteAt_of_lookup {s : State} {a : Nat} {b : Byte} (h : s.mem.lookup a = some b) : s.byteAt a = b := by
  simp [State.byteAt, h]

/-- A FRAME entry reads as what was written to it, all 32 bits (20_memory.md R61). -/
theorem State.pixel_setPixel_self (s : State) {i : Nat} (hi : i < s.maxPix) (p : Word) :
    (s.setPixel i p).pixel i = p := by
  have hm : (s.setPixel i p).mem = s.mem.storePixel (frameOffset i) p := by simp [hi]
  have h3 : (s.setPixel i p).byteAt (frameOffset i + 3) = alphaOf p :=
    State.byteAt_of_lookup (by rw [hm]; simp [Memory.storePixel])
  have h2 : (s.setPixel i p).byteAt (frameOffset i + 2) = blueOf (rgbOf p) :=
    State.byteAt_of_lookup (by
      rw [hm]; unfold Memory.storePixel
      rw [Memory.lookup_insert_ne _ _ (by omega)]; simp [Memory.storeColour])
  have h1 : (s.setPixel i p).byteAt (frameOffset i + 1) = greenOf (rgbOf p) :=
    State.byteAt_of_lookup (by
      rw [hm]; unfold Memory.storePixel Memory.storeColour
      rw [Memory.lookup_insert_ne _ _ (by omega), Memory.lookup_insert_ne _ _ (by omega)]; simp)
  have h0 : (s.setPixel i p).byteAt (frameOffset i) = redOf (rgbOf p) :=
    State.byteAt_of_lookup (by
      rw [hm]; unfold Memory.storePixel Memory.storeColour
      rw [Memory.lookup_insert_ne _ _ (by omega), Memory.lookup_insert_ne _ _ (by omega),
        Memory.lookup_insert_ne _ _ (by omega)]; simp)
  rw [State.pixel, h0, h1, h2, h3, colourOf_channels, alphaOf_append_rgbOf]

theorem State.pixel_setPixel_ne (s : State) {i k : Nat} (h : k ≠ i) (p : Word) :
    (s.setPixel i p).pixel k = s.pixel k := by
  have hout : ∀ d, d < 4 → (s.setPixel i p).byteAt (frameOffset k + d) = s.byteAt (frameOffset k + d) := by
    intro d hd
    refine State.byteAt_setPixel_outside s i p ?_
    simp only [frameOffset]
    omega
  have h0 := hout 0 (by omega)
  rw [Nat.add_zero] at h0
  simp only [State.pixel, h0, hout 1 (by omega), hout 2 (by omega), hout 3 (by omega)]

/-- A FRAME write leaves PAL alone, for the entries that exist. -/
theorem State.palEntry_setPixel (s : State) (i : Nat) (p : Word) {j : Nat} (hj : j < 4194048) :
    (s.setPixel i p).palEntry j = s.palEntry j := by
  have hout : ∀ d, d < 3 → (s.setPixel i p).byteAt (palOffset j + d) = s.byteAt (palOffset j + d) := by
    intro d hd
    refine State.byteAt_setPixel_outside s i p ?_
    simp only [frameOffset, frameBase, palOffset, palBase]
    omega
  have h0 := hout 0 (by omega)
  rw [Nat.add_zero] at h0
  simp only [State.palEntry, h0, hout 1 (by omega), hout 2 (by omega)]

theorem State.palEntry_setPalEntry_self (s : State) {j : Nat} (hj : j < 256) (q : Colour) :
    (s.setPalEntry j q).palEntry j = q := by
  have hm : (s.setPalEntry j q).mem = s.mem.storeColour (palOffset j) q := by simp [hj]
  have h2 : (s.setPalEntry j q).byteAt (palOffset j + 2) = blueOf q :=
    State.byteAt_of_lookup (by rw [hm]; simp [Memory.storeColour])
  have h1 : (s.setPalEntry j q).byteAt (palOffset j + 1) = greenOf q :=
    State.byteAt_of_lookup (by
      rw [hm]; unfold Memory.storeColour
      rw [Memory.lookup_insert_ne _ _ (by omega)]; simp)
  have h0 : (s.setPalEntry j q).byteAt (palOffset j) = redOf q :=
    State.byteAt_of_lookup (by
      rw [hm]; unfold Memory.storeColour
      rw [Memory.lookup_insert_ne _ _ (by omega), Memory.lookup_insert_ne _ _ (by omega)]; simp)
  rw [State.palEntry, h0, h1, h2, colourOf_channels]

theorem State.pixel_recolour_self (s : State) {i : Nat} (hi : i < s.maxPix) (q : Colour) :
    (s.recolour q i).pixel i = emit q (s.pixel i) := State.pixel_setPixel_self s hi _

theorem State.pixel_recolour_ne (s : State) {i k : Nat} (h : k ≠ i) (q : Colour) :
    (s.recolour q i).pixel k = s.pixel k := State.pixel_setPixel_ne s h _

/-- A FRAME entry at or beyond MAXPIX does not exist: nothing is written (assumption log 16). -/
theorem State.recolour_beyond (s : State) (q : Colour) {i : Nat} (hi : ¬ i < s.maxPix) : s.recolour q i = s := by
  unfold State.recolour State.setPixel
  rw [if_neg hi]

/-- What recolouring one pixel does to every pixel. -/
theorem State.pixel_recolour (s : State) (q : Colour) (i k : Nat) :
    (s.recolour q i).pixel k = if k = i ∧ i < s.maxPix then emit q (s.pixel k) else s.pixel k := by
  by_cases hi : i < s.maxPix
  · by_cases hk : k = i
    · subst hk
      rw [State.pixel_recolour_self s hi, if_pos ⟨rfl, hi⟩]
    · rw [State.pixel_recolour_ne s hk, if_neg (fun h => hk h.1)]
  · rw [State.recolour_beyond s q hi, if_neg (fun h => hi h.2)]

theorem State.palEntry_recolour (s : State) (q : Colour) (i : Nat) {j : Nat} (hj : j < 4194048) :
    (s.recolour q i).palEntry j = s.palEntry j := State.palEntry_setPixel s i _ hj

theorem State.byteAt_recolour_outside (s : State) (q : Colour) (i : Nat) {a : Nat}
    (h : a < frameOffset i ∨ frameOffset i + 4 ≤ a) : (s.recolour q i).byteAt a = s.byteAt a :=
  State.byteAt_setPixel_outside s i _ h

end Sys2Proof.Machine
end

