-- ==== Sys2Proof/Laws/Engine.lean ====
section
/-! SUPPORT. What the loops of the engine can change, said once: FRAME entries of the pixels they visit and, for QDITH,
the accumulators (40_command_issue.md R114, R117; 20_memory.md R69). -/

namespace Sys2Proof.Machine

/-! ### Folds over the state -/

/-- A loop each of whose iterations changes the memory alone changes the memory alone. -/
theorem foldl_memOnly {α : Type} (f : State → α → State) (h : ∀ t x, f t x = { t with mem := (f t x).mem })
    (l : List α) (s : State) : l.foldl f s = { s with mem := (l.foldl f s).mem } := by
  induction l generalizing s with
  | nil => rfl
  | cons x rest ih =>
    refine (ih (f s x)).trans ?_
    rw [List.foldl_cons]
    generalize (rest.foldl f (f s x)).mem = m
    rw [h s x]

/-- A loop each of whose iterations keeps a property keeps it. -/
theorem foldl_keeps {α : Type} (f : State → α → State) (P : State → Prop) (l : List α)
    (h : ∀ t, ∀ x ∈ l, P t → P (f t x)) {s : State} (hs : P s) : P (l.foldl f s) := by
  induction l generalizing s with
  | nil => exact hs
  | cons x rest ih =>
    exact ih (fun t y hy => h t y (List.mem_cons_of_mem _ hy)) (h s x List.mem_cons_self hs)

/-! ### The bitmap's offsets -/

theorem State.pixelIndex_lt (s : State) {x y : Nat} (hx : x < s.imgW) (hy : y < s.imgH) :
    s.pixelIndex x y < s.imgW * s.imgH := by
  unfold State.pixelIndex
  calc y * s.imgW + x < y * s.imgW + s.imgW := by omega
    _ = (y + 1) * s.imgW := by ring
    _ ≤ s.imgH * s.imgW := Nat.mul_le_mul_right _ hy
    _ = s.imgW * s.imgH := Nat.mul_comm _ _

theorem State.pixelIndex_inj (s : State) {x y x' y' : Nat} (hx : x < s.imgW) (hx' : x' < s.imgW)
    (h : s.pixelIndex x y = s.pixelIndex x' y') : x = x' ∧ y = y' := by
  unfold State.pixelIndex at h
  have hmod := congrArg (· % s.imgW) h
  have hdiv := congrArg (· / s.imgW) h
  have hpos : 0 < s.imgW := by omega
  simp only [Nat.mul_add_mod', Nat.mod_eq_of_lt hx, Nat.mod_eq_of_lt hx'] at hmod
  simp only [Nat.mul_comm _ s.imgW, Nat.mul_add_div hpos, Nat.div_eq_of_lt hx, Nat.div_eq_of_lt hx'] at hdiv
  exact ⟨hmod, by omega⟩

/-! ### Filling a set of pixels -/

theorem State.recolour_memOnly (q : Colour) (i : Nat) (s : State) :
    s.recolour q i = { s with mem := (s.recolour q i).mem } := rfl

/-- Filling changes the memory alone. -/
theorem State.fill_memOnly (q : Colour) (idx : List Nat) (s : State) :
    s.fill q idx = { s with mem := (s.fill q idx).mem } :=
  foldl_memOnly _ (fun t i => State.recolour_memOnly q i t) idx s

/-- Filling gives exactly the listed pixels of FRAME the new colour, each with its own alpha (43_downsampler.md R175,
R178). -/
theorem State.pixel_fill (q : Colour) (idx : List Nat) (s : State) (k : Nat) :
    (s.fill q idx).pixel k = if k ∈ idx ∧ k < s.maxPix then emit q (s.pixel k) else s.pixel k := by
  induction idx generalizing s with
  | nil => simp [State.fill]
  | cons i rest ih =>
    have hstep : s.fill q (i :: rest) = (s.recolour q i).fill q rest := rfl
    rw [hstep, ih (s.recolour q i), State.pixel_recolour, State.recolour_maxPix]
    by_cases hki : k = i
    · subst hki
      by_cases hk : k < s.maxPix <;> simp [hk]
    · simp [hki]

/-- Filling leaves every byte outside the listed pixels alone. -/
theorem State.byteAt_fill_outside (q : Colour) (idx : List Nat) (s : State) {a : Nat}
    (h : ∀ i ∈ idx, a < frameOffset i ∨ frameOffset i + 4 ≤ a) : (s.fill q idx).byteAt a = s.byteAt a :=
  foldl_keeps (fun t i => t.recolour q i) (fun t => t.byteAt a = s.byteAt a) idx
    (fun t i hi ht => (State.byteAt_recolour_outside t q i (h i hi)).trans ht) rfl

theorem State.recolour_memLegal {s : State} (h : s.memLegal) (q : Colour) (i : Nat) : (s.recolour q i).memLegal :=
  State.setPixel_memLegal h _ _

theorem State.fill_memLegal {s : State} (h : s.memLegal) (q : Colour) (idx : List Nat) : (s.fill q idx).memLegal :=
  foldl_keeps (fun t i => t.recolour q i) State.memLegal idx (fun _ i _ ht => State.recolour_memLegal ht q i) h

/-! ### Blocks -/

theorem mem_blockSpan {k side limit c : Nat} : c ∈ blockSpan k side limit ↔ k * side ≤ c ∧ c < k * side + side ∧ c < limit := by
  unfold blockSpan
  rw [List.mem_range'_1]
  omega

/-- The pixels of a block (43_downsampler.md R170). -/
theorem State.mem_blockIndices (s : State) {bx bY i : Nat} :
    i ∈ s.blockIndices bx bY ↔ ∃ y ∈ blockSpan bY s.blockP s.imgH, ∃ x ∈ blockSpan bx s.blockP s.imgW,
      s.pixelIndex x y = i := by
  simp [State.blockIndices, List.mem_flatMap, List.mem_map]

/-- Every pixel of a block is a pixel of the bitmap. -/
theorem State.blockIndices_lt (s : State) {bx bY i : Nat} (h : i ∈ s.blockIndices bx bY) : i < s.imgW * s.imgH := by
  obtain ⟨y, hy, x, hx, rfl⟩ := s.mem_blockIndices.1 h
  exact s.pixelIndex_lt (mem_blockSpan.1 hx).2.2 (mem_blockSpan.1 hy).2.2

theorem State.blockIndices_congr {s t : State} (hw : t.width = s.width) (hh : t.height = s.height)
    (hb : t.block = s.block) (bx bY : Nat) : t.blockIndices bx bY = s.blockIndices bx bY := by
  unfold State.blockIndices State.pixelIndex State.imgW State.imgH State.blockP
  rw [hw, hh, hb]

/-- The blocks a downsampling command visits, in the model's order. -/
def State.blockList (s : State) : List (Nat × Nat) :=
  (List.range s.nby).flatMap fun bY => (List.range s.nbx).map fun bx => (bx, bY)

/-- The two nested loops are one loop over the blocks. -/
theorem State.aggregate_eq_foldl (rep : List Colour → Colour) (s : State) :
    s.aggregate rep = s.blockList.foldl (fun t b => t.aggregateBlock rep b.1 b.2) s := by
  unfold State.aggregate State.blockList
  rw [List.foldl_flatMap]
  simp only [List.foldl_map]

/-- A pixel of a block determines the block: it is (x / P, y / P) (43_downsampler.md R170). -/
theorem State.block_of_mem {s : State} {bx bY k : Nat} (h : k ∈ s.blockIndices bx bY) :
    bx = k % s.imgW / s.blockP ∧ bY = k / s.imgW / s.blockP := by
  obtain ⟨y, hy, x, hx, rfl⟩ := s.mem_blockIndices.1 h
  obtain ⟨hx1, hx2, hx3⟩ := mem_blockSpan.1 hx
  obtain ⟨hy1, hy2, hy3⟩ := mem_blockSpan.1 hy
  have hP : 0 < s.blockP := by omega
  have hW : 0 < s.imgW := by omega
  have hm : s.pixelIndex x y % s.imgW = x := by
    rw [State.pixelIndex, Nat.mul_add_mod', Nat.mod_eq_of_lt hx3]
  have hd : s.pixelIndex x y / s.imgW = y := by
    rw [State.pixelIndex, Nat.mul_comm, Nat.mul_add_div hW, Nat.div_eq_of_lt hx3, Nat.add_zero]
  rw [hm, hd]
  constructor
  · exact (Nat.div_eq_of_lt_le hx1 (by rw [Nat.succ_mul]; exact hx2)).symm
  · exact (Nat.div_eq_of_lt_le hy1 (by rw [Nat.succ_mul]; exact hy2)).symm

theorem State.aggregateBlock_memOnly (rep : List Colour → Colour) (bx bY : Nat) (s : State) :
    s.aggregateBlock rep bx bY = { s with mem := (s.aggregateBlock rep bx bY).mem } :=
  State.fill_memOnly _ _ s

/-- A downsampling command changes the memory alone. -/
theorem State.aggregate_memOnly (rep : List Colour → Colour) (s : State) :
    s.aggregate rep = { s with mem := (s.aggregate rep).mem } :=
  foldl_memOnly _ (fun t bY => foldl_memOnly _ (fun u bx => State.aggregateBlock_memOnly rep bx bY u) _ t) _ s

theorem State.aggregate_memLegal {s : State} (h : s.memLegal) (rep : List Colour → Colour) :
    (s.aggregate rep).memLegal :=
  foldl_keeps _ State.memLegal _
    (fun _ bY _ ht => foldl_keeps (fun u bx => u.aggregateBlock rep bx bY) State.memLegal _
      (fun _ _ _ hu => State.fill_memLegal hu _ _) ht) h

/-! ### The nearest entry -/

theorem State.closer_congr {s t : State} {c : Vec3} {b : Nat × Int} {j : Nat} (h : t.palEntry j = s.palEntry j) :
    t.closer c b j = s.closer c b j := by
  unfold State.closer State.palVec
  rw [h]

/-- The nearest entry depends on K and the entries below K alone (41_color_mapper.md R132). -/
theorem State.nearest_congr {s t : State} (hK : t.palK = s.palK) (h0 : t.palEntry 0 = s.palEntry 0)
    (h : ∀ j, j < s.palK → t.palEntry j = s.palEntry j) (c : Vec3) : t.nearest c = s.nearest c := by
  unfold State.nearest
  rw [hK, show t.palVec 0 = s.palVec 0 by simp [State.palVec, h0]]
  congr 1
  have hl : ∀ j ∈ List.range' 1 (s.palK - 1), j < s.palK := by
    intro j hj
    have := List.mem_range'_1.1 hj
    omega
  generalize List.range' 1 (s.palK - 1) = l at hl
  generalize ((0 : Nat), colourDist c (s.palVec 0)) = b
  induction l generalizing b with
  | nil => rfl
  | cons j rest ih =>
    rw [List.foldl_cons, List.foldl_cons, State.closer_congr (h j (hl j List.mem_cons_self)),
      ih (fun k hk => hl k (List.mem_cons_of_mem _ hk))]

/-- The nearest entry is one of the entries in use (41_color_mapper.md R132). -/
theorem State.nearest_lt (s : State) (hK : 0 < s.palK) (c : Vec3) : s.nearest c < s.palK := by
  unfold State.nearest
  have hl : ∀ j ∈ List.range' 1 (s.palK - 1), j < s.palK := by
    intro j hj
    have := List.mem_range'_1.1 hj
    omega
  suffices H : ∀ (l : List Nat) (b : Nat × Int), (∀ j ∈ l, j < s.palK) → b.1 < s.palK →
      (l.foldl (s.closer c) b).1 < s.palK from H _ _ hl hK
  intro l
  induction l with
  | nil => intro b _ hb; exact hb
  | cons j rest ih =>
    intro b hl hb
    refine ih _ (fun k hk => hl k (List.mem_cons_of_mem _ hk)) ?_
    unfold State.closer
    dsimp only
    split
    · exact hl j List.mem_cons_self
    · exact hb

/-! ### QNEAR -/

theorem State.qnearPixel_memOnly (s : State) (i : Nat) :
    s.qnearPixel i = { s with mem := (s.qnearPixel i).mem } := rfl

/-- QNEAR changes the memory alone. -/
theorem State.qnear_memOnly (s : State) : s.qnear = { s with mem := s.qnear.mem } :=
  foldl_memOnly _ State.qnearPixel_memOnly _ s

theorem State.qnear_memLegal {s : State} (h : s.memLegal) : s.qnear.memLegal :=
  foldl_keeps _ State.memLegal _ (fun _ _ _ ht => State.recolour_memLegal ht _ _) h

/-! ### QDITH -/

/-- What changes the accumulators alone, twice, changes the accumulators alone. -/
theorem errOnly_trans {s t u : State} (h : t = { s with ditherErr := t.ditherErr })
    (h' : u = { t with ditherErr := u.ditherErr }) : u = { s with ditherErr := u.ditherErr } := by
  rw [h'.trans (by rw [h] : _ = { s with ditherErr := u.ditherErr })]

theorem State.addErr_errOnly (inside : Bool) (x y : Nat) (w : Int) (res : Vec3) (s : State) :
    s.addErr inside x y w res = { s with ditherErr := (s.addErr inside x y w res).ditherErr } := rfl

theorem State.diffuse_errOnly (x y : Nat) (res : Vec3) (s : State) :
    s.diffuse x y res = { s with ditherErr := (s.diffuse x y res).ditherErr } := by
  unfold State.diffuse
  exact errOnly_trans (errOnly_trans (errOnly_trans (State.addErr_errOnly _ _ _ _ _ _)
    (State.addErr_errOnly _ _ _ _ _ _)) (State.addErr_errOnly _ _ _ _ _ _)) (State.addErr_errOnly _ _ _ _ _ _)

/-- What changes the memory alone and then the accumulators alone changes these two alone. -/
theorem memOnly_errOnly {s t u : State} (h : t = { s with mem := t.mem })
    (h' : u = { t with ditherErr := u.ditherErr }) : u = { s with mem := u.mem, ditherErr := u.ditherErr } := by
  have hm : u.mem = t.mem := by rw [h']
  rw [hm]
  generalize u.ditherErr = d at h'
  rw [h', h]

theorem State.qdithPixel_frame (s : State) (x y : Nat) :
    s.qdithPixel x y = { s with mem := (s.qdithPixel x y).mem, ditherErr := (s.qdithPixel x y).ditherErr } := by
  unfold State.qdithPixel
  exact memOnly_errOnly (State.recolour_memOnly _ _ _) (State.diffuse_errOnly _ _ _ _)

/-- A loop each of whose iterations changes the memory and the accumulators alone changes these alone. -/
theorem foldl_memErrOnly {α : Type} (f : State → α → State)
    (h : ∀ t x, f t x = { t with mem := (f t x).mem, ditherErr := (f t x).ditherErr })
    (l : List α) (s : State) :
    l.foldl f s = { s with mem := (l.foldl f s).mem, ditherErr := (l.foldl f s).ditherErr } := by
  induction l generalizing s with
  | nil => rfl
  | cons x rest ih =>
    refine (ih (f s x)).trans ?_
    rw [List.foldl_cons]
    generalize (rest.foldl f (f s x)).mem = m
    generalize (rest.foldl f (f s x)).ditherErr = d
    rw [h s x]

/-- QDITH changes the memory and the accumulators alone. -/
theorem State.qdith_frame (s : State) :
    s.qdith = { s with mem := s.qdith.mem, ditherErr := s.qdith.ditherErr } :=
  foldl_memErrOnly (fun t y => (List.range s.imgW).foldl (fun u x => u.qdithPixel x y) t)
    (fun t y => foldl_memErrOnly _ (fun u x => State.qdithPixel_frame u x y) _ t) _ s.zeroErr

/-- The accumulators are no part of the memory. -/
theorem State.memLegal_withErr {s : State} (h : s.memLegal) (d : List Vec3) : { s with ditherErr := d }.memLegal := h

theorem State.diffuse_memLegal {s : State} (h : s.memLegal) (x y : Nat) (res : Vec3) :
    (s.diffuse x y res).memLegal := by
  rw [State.diffuse_errOnly]
  exact State.memLegal_withErr h _

theorem State.qdith_memLegal {s : State} (h : s.memLegal) : s.qdith.memLegal :=
  foldl_keeps (fun t y => (List.range s.imgW).foldl (fun u x => u.qdithPixel x y) t) State.memLegal _
    (fun _ y _ ht => foldl_keeps (fun u x => u.qdithPixel x y) State.memLegal _
      (fun _ _ _ hu => State.diffuse_memLegal (State.recolour_memLegal hu _ _) _ _ _) ht)
    (show s.zeroErr.memLegal from h)

/-! ### Every command -/

/-- What changes the memory alone keeps the accumulators. -/
theorem memOnly_frame {s t : State} (h : t = { s with mem := t.mem }) :
    t = { s with mem := t.mem, ditherErr := t.ditherErr } := by
  have hd : t.ditherErr = s.ditherErr := by rw [h]
  rw [hd]
  exact h

/-- What processing can change: the memory and the accumulators (40_command_issue.md R114, R117). -/
theorem processing_frame (i : Instr) (s : State) :
    processing i s = { s with mem := (processing i s).mem, ditherErr := (processing i s).ditherErr } := by
  cases i with
  | nop => rfl
  | pixmean => exact memOnly_frame (s.aggregate_memOnly meanColour)
  | pixmode => exact memOnly_frame (s.aggregate_memOnly modeColour)
  | qnear => exact memOnly_frame s.qnear_memOnly
  | qdith => exact s.qdith_frame

theorem processing_memLegal (i : Instr) {s : State} (h : s.memLegal) : (processing i s).memLegal := by
  cases i with
  | nop => exact h
  | pixmean => exact State.aggregate_memLegal h meanColour
  | pixmode => exact State.aggregate_memLegal h modeColour
  | qnear => exact State.qnear_memLegal h
  | qdith => exact State.qdith_memLegal h

end Sys2Proof.Machine
end

