-- ==== Sys2Proof/Laws/Bitmap.lean ====
section
/-! SUPPORT. Bytes, pixel words and palette colours as views of one memory: each determines the others, so that a claim
about bytes follows from a claim about pixels (10_state.md R30 to R32; 20_memory.md R69). -/

namespace Sys2Proof.Machine

/-! ### The channels of a packed word -/

theorem getLsbD_colourOf (r g b : Byte) (i : Nat) :
    (colourOf r g b).getLsbD i =
      if i < 8 then r.getLsbD i else if i - 8 < 8 then g.getLsbD (i - 8) else b.getLsbD (i - 8 - 8) := by
  have h : (colourOf r g b).getLsbD i = if i < 8 then r.getLsbD i else (b ++ g).getLsbD (i - 8) :=
    BitVec.getLsbD_append
  rw [h, BitVec.getLsbD_append]

@[simp] theorem redOf_colourOf (r g b : Byte) : redOf (colourOf r g b) = r := by
  apply BitVec.eq_of_getLsbD_eq
  intro i hi
  rw [redOf, BitVec.getLsbD_extractLsb', getLsbD_colourOf]
  simp [hi]

@[simp] theorem greenOf_colourOf (r g b : Byte) : greenOf (colourOf r g b) = g := by
  apply BitVec.eq_of_getLsbD_eq
  intro i hi
  rw [greenOf, BitVec.getLsbD_extractLsb', getLsbD_colourOf]
  simp [hi]

@[simp] theorem blueOf_colourOf (r g b : Byte) : blueOf (colourOf r g b) = b := by
  apply BitVec.eq_of_getLsbD_eq
  intro i hi
  rw [blueOf, BitVec.getLsbD_extractLsb', getLsbD_colourOf]
  simp [hi, show 16 + i - 8 = 8 + i by omega, show ¬ 16 + i < 8 by omega]

theorem getLsbD_alpha_append (a : Byte) (q : Colour) (i : Nat) :
    (a ++ q : Word).getLsbD i = if i < 24 then q.getLsbD i else a.getLsbD (i - 24) := BitVec.getLsbD_append

theorem rgbOf_append (a : Byte) (q : Colour) : rgbOf (a ++ q) = q := by
  apply BitVec.eq_of_getLsbD_eq
  intro i hi
  rw [rgbOf, BitVec.getLsbD_extractLsb', getLsbD_alpha_append]
  simp [hi]

theorem alphaOf_append (a : Byte) (q : Colour) : alphaOf (a ++ q) = a := by
  apply BitVec.eq_of_getLsbD_eq
  intro i hi
  rw [alphaOf, BitVec.getLsbD_extractLsb', getLsbD_alpha_append]
  simp [hi]

/-! ### Bytes from pixels -/

/-- The four bytes of a FRAME entry are the channels of its pixel word. -/
theorem State.byteAt_of_pixel_eq {s t : State} {k : Nat} (h : t.pixel k = s.pixel k) (d : Nat) (hd : d < 4) :
    t.byteAt (frameOffset k + d) = s.byteAt (frameOffset k + d) := by
  unfold State.pixel at h
  have hrgb := congrArg rgbOf h
  have halpha := congrArg alphaOf h
  rw [rgbOf_append, rgbOf_append] at hrgb
  rw [alphaOf_append, alphaOf_append] at halpha
  have hr := congrArg redOf hrgb
  have hg := congrArg greenOf hrgb
  have hb := congrArg blueOf hrgb
  simp only [redOf_colourOf, greenOf_colourOf, blueOf_colourOf] at hr hg hb
  interval_cases d
  · exact hr
  · exact hg
  · exact hb
  · exact halpha

theorem frameOffset_split {a : Nat} (ha : frameBase ≤ a) :
    a = frameOffset ((a - frameBase) / 4) + (a - frameBase) % 4 := by
  unfold frameOffset
  omega

/-- Two states with the same bytes below FRAME and the same pixel words have the same bytes. -/
theorem State.byteAt_eq_of_pixel_eq {s t : State} (hlow : ∀ a, a < frameBase → t.byteAt a = s.byteAt a)
    (h : ∀ k, t.pixel k = s.pixel k) (a : Nat) : t.byteAt a = s.byteAt a := by
  by_cases ha : a < frameBase
  · exact hlow a ha
  · rw [frameOffset_split (Nat.le_of_not_lt ha)]
    exact State.byteAt_of_pixel_eq (h _) _ (Nat.mod_lt _ (by decide))

/-- Two states with the same bytes below FRAME and the same pixel words from W*H on have the same bytes outside the
bitmap. -/
theorem State.byteAt_eq_outside_bitmap {s t : State} (hlow : ∀ a, a < frameBase → t.byteAt a = s.byteAt a)
    (h : ∀ k, s.imgW * s.imgH ≤ k → t.pixel k = s.pixel k) {a : Nat} (ha : ¬ s.inBitmap a) :
    t.byteAt a = s.byteAt a := by
  by_cases hl : a < frameBase
  · exact hlow a hl
  · have hk : s.imgW * s.imgH ≤ (a - frameBase) / 4 := by
      unfold State.inBitmap frameOffset at ha
      omega
    rw [frameOffset_split (Nat.le_of_not_lt hl)]
    exact State.byteAt_of_pixel_eq (h _ hk) _ (Nat.mod_lt _ (by decide))

/-! ### The palette lies below FRAME -/

theorem State.palK_lt (s : State) : s.palK < 512 := s.palSize.isLt

theorem State.palEntry_of_low {s t : State} (hlow : ∀ a, a < frameBase → t.byteAt a = s.byteAt a) {j : Nat}
    (hj : j < 4194048) : t.palEntry j = s.palEntry j := by
  have hb : ∀ d, d < 3 → t.byteAt (palOffset j + d) = s.byteAt (palOffset j + d) := by
    intro d hd
    exact hlow _ (by unfold palOffset palBase frameBase; omega)
  have h0 := hb 0 (by omega)
  rw [Nat.add_zero] at h0
  unfold State.palEntry
  rw [h0, hb 1 (by omega), hb 2 (by omega)]

theorem State.nearest_of_low {s t : State} (hK : t.palK = s.palK)
    (hlow : ∀ a, a < frameBase → t.byteAt a = s.byteAt a) (c : Vec3) : t.nearest c = s.nearest c :=
  State.nearest_congr hK (State.palEntry_of_low hlow (by norm_num))
    (fun j hj => State.palEntry_of_low hlow (by have := s.palK_lt; omega)) c

theorem State.nearest_lt_512 (s : State) (c : Vec3) : s.nearest c < 512 := by
  by_cases hK : 0 < s.palK
  · exact (s.nearest_lt hK c).trans s.palK_lt
  · unfold State.nearest
    simp [show s.palK = 0 by omega]

theorem State.byteAt_recolour_low (s : State) (q : Colour) (i : Nat) {a : Nat} (ha : a < frameBase) :
    (s.recolour q i).byteAt a = s.byteAt a :=
  s.byteAt_recolour_outside q i (.inl (by unfold frameOffset; omega))

/-! ### A valid configuration -/

/-- What `validate()` answering 0 says (40_command_issue.md R111). -/
theorem State.validate_none {s : State} (h : s.validate = .none) :
    1 ≤ s.blockP ∧ 4 ≤ s.palK ∧ s.palK ≤ 256 ∧ 1 ≤ s.imgW ∧ 1 ≤ s.imgH ∧ s.imgW * s.imgH ≤ s.maxPix := by
  unfold State.validate at h
  split at h
  · cases h
  split at h
  · cases h
  split at h
  · cases h
  split at h
  · cases h
  omega

end Sys2Proof.Machine
end

