-- ==== Sys2Proof/Laws/PerInstr.lean ====
section
/-! SUPPORT. Statements about every command, one lemma per constructor. -/

namespace Sys2Proof.Laws

/-- A command, as syntax: it is well formed, its word is a valid command word whose operation code is the command's own
row of the opcode map, the decoder gives the command back, and so does the decoder written from the table alone
(30_encoding.md R90, R91, R95). -/
def CommandWordIsItsOwn.Statement (i : Instr) : Prop :=
  i.wellFormed = true ∧ wellFormedWord (encode i) = true ∧ opField (encode i) = opOfCommand i ∧
    decode (encode i) = .ok i ∧ tableDecode (encode i) = some i

theorem CommandWordIsItsOwn.nop : CommandWordIsItsOwn.Statement .nop := ⟨rfl, by decide, by decide, rfl, by decide⟩

theorem CommandWordIsItsOwn.pixmean : CommandWordIsItsOwn.Statement .pixmean :=
  ⟨rfl, by decide, by decide, rfl, by decide⟩

theorem CommandWordIsItsOwn.pixmode : CommandWordIsItsOwn.Statement .pixmode :=
  ⟨rfl, by decide, by decide, rfl, by decide⟩

theorem CommandWordIsItsOwn.qnear : CommandWordIsItsOwn.Statement .qnear :=
  ⟨rfl, by decide, by decide, rfl, by decide⟩

theorem CommandWordIsItsOwn.qdith : CommandWordIsItsOwn.Statement .qdith :=
  ⟨rfl, by decide, by decide, rfl, by decide⟩

end Sys2Proof.Laws
end

