-- ==== Sys2Proof/Laws/Step.lean ====
section
/-! SUPPORT. What a command write, a command and a step can do, said once; the provers cite these instead of unfolding
the definitions (40_command_issue.md R110 to R114; 20_memory.md R73). -/

namespace Sys2Proof.Machine

/-- "Exactly one of three things happens to a command write: dropped, rejected, accepted" (40_command_issue.md R110). -/
theorem State.issue_cases (i : Instr) (s : State) :
    (s.busy = true ∧ s.issue i = s.dropWrite) ∨
    (s.busy = false ∧ validated i = true ∧ s.validate ≠ .none ∧ s.issue i = s.reject s.validate) ∨
    (s.busy = false ∧ (validated i = true → s.validate = .none) ∧ s.issue i = s.accept i) := by
  unfold State.issue
  by_cases hb : s.busy = true
  · exact .inl ⟨hb, if_pos hb⟩
  · have hb' : s.busy = false := by simpa using hb
    rw [if_neg hb]
    by_cases hv : (validated i && s.validate != .none) = true
    · rw [if_pos hv]
      obtain ⟨h1, h2⟩ := Bool.and_eq_true _ _ ▸ hv
      exact .inr (.inl ⟨hb', h1, by simpa using h2, rfl⟩)
    · rw [if_neg hv]
      refine .inr (.inr ⟨hb', fun h1 => ?_, rfl⟩)
      simpa [h1] using hv

theorem State.issueIllegal_cases (s : State) :
    (s.busy = true ∧ s.issueIllegal = s.dropWrite) ∨ (s.busy = false ∧ s.issueIllegal = s.reject .illCmd) := by
  unfold State.issueIllegal
  by_cases hb : s.busy = true
  · exact .inl ⟨hb, if_pos hb⟩
  · exact .inr ⟨by simpa using hb, if_neg hb⟩

theorem State.completionDue_iff {i : Instr} {s : State} :
    s.completionDue i = true ↔ s.engineDue = true ∧ s.pend = some i := by
  simp [State.completionDue]

/-- Every command is its completion when that is due, and its command write otherwise. -/
theorem exec_eq (i : Instr) (s : State) :
    exec i s = .next (if s.completionDue i then (processing i s).complete else s.issue i) := by
  cases i <;> rfl

theorem exec_completion {i : Instr} {s : State} (h : s.completionDue i = true) :
    exec i s = .next (processing i s).complete := by
  rw [exec_eq, if_pos h]

theorem exec_issue {i : Instr} {s : State} (h : s.completionDue i = false) : exec i s = .next (s.issue i) := by
  rw [exec_eq, h]; rfl

/-- What the event now due can ask for, by its kind. -/
theorem State.due_cases (s : State) :
    (∃ i, s.engineDue = true ∧ s.pend = some i ∧ s.due = .run i) ∨
    (s.engineDue = true ∧ s.pend = none ∧ s.due = .settle s) ∨
    (∃ a v rest i, s.script = .write a v :: rest ∧ wellFormedOffset a = true ∧ s.locate a = .cmd ∧
      decode v = .ok i ∧ s.due = .run i) ∨
    (∃ a v rest e, s.script = .write a v :: rest ∧ wellFormedOffset a = true ∧ s.locate a = .cmd ∧
      decode v = .error e ∧ s.due = .settle s.issueIllegal) ∨
    (∃ a v rest, s.script = .write a v :: rest ∧ wellFormedOffset a = true ∧ s.locate a ≠ .cmd ∧
      s.due = .settle (s.hostWrite (s.locate a) v)) ∨
    (∃ a rest, s.script = .read a :: rest ∧ wellFormedOffset a = true ∧
      s.due = .settle (s.hostRead (s.locate a))) ∨
    (∃ rest, s.script = .reset :: rest ∧ s.due = .settle s.resetEvent) ∨
    (∃ e rest, s.script = e :: rest ∧ e.aligned = false ∧ s.due = .refuse .misalignedOffset) := by
  unfold State.due State.engineDue
  cases hs : s.script with
  | nil =>
    cases hp : s.pend with
    | some i => exact .inl ⟨i, rfl, rfl, rfl⟩
    | none => exact .inr (.inl ⟨rfl, rfl, rfl⟩)
  | cons e rest =>
    cases e with
    | engine =>
      cases hp : s.pend with
      | some i => exact .inl ⟨i, rfl, rfl, rfl⟩
      | none => exact .inr (.inl ⟨rfl, rfl, rfl⟩)
    | reset => exact .inr (.inr (.inr (.inr (.inr (.inr (.inl ⟨rest, rfl, rfl⟩))))))
    | read a =>
      by_cases ha : wellFormedOffset a = true
      · exact .inr (.inr (.inr (.inr (.inr (.inl ⟨a, rest, rfl, ha, if_pos ha⟩)))))
      · exact .inr (.inr (.inr (.inr (.inr (.inr (.inr ⟨_, rest, rfl, by simpa [Event.aligned] using ha, if_neg ha⟩))))))
    | write a v =>
      by_cases ha : wellFormedOffset a = true
      · by_cases hl : s.locate a = .cmd
        · cases hd : decode v with
          | ok i =>
            refine .inr (.inr (.inl ⟨a, v, rest, i, rfl, ha, hl, hd, ?_⟩))
            simp [ha, State.writeDue, hl, hd]
          | error e =>
            refine .inr (.inr (.inr (.inl ⟨a, v, rest, e, rfl, ha, hl, hd, ?_⟩)))
            simp [ha, State.writeDue, hl, hd]
        · refine .inr (.inr (.inr (.inr (.inl ⟨a, v, rest, rfl, ha, hl, ?_⟩))))
          simp [ha, State.writeDue, hl]
      · exact .inr (.inr (.inr (.inr (.inr (.inr (.inr ⟨_, rest, rfl, by simpa [Event.aligned] using ha, if_neg ha⟩))))))

theorem step_run {i : Instr} {s : State} (h : s.due = .run i) : step s = advanceOutcome (exec i s) := by
  rw [step, h]

theorem step_settle {s t : State} (h : s.due = .settle t) : step s = .next t.advance := by
  rw [step, h]; rfl

/-- What a host write outside CMD can do: drop, or one update of one location (20_memory.md R61 to R63, R73). -/
theorem State.hostWrite_cases (l : Loc) (v : Word) (s : State) :
    (s.hostWrite l v = s ∧ (l = .id ∨ l = .cap ∨ l = .unmapped ∨ l = .cmd)) ∨
    (l = .status ∧ s.hostWrite l v = s.clearFlags v) ∨ (l = .irqEn ∧ s.hostWrite l v = s.setIrqEn v) ∨
    (s.busy = true ∧ s.hostWrite l v = s.dropWrite) ∨
    (s.busy = false ∧
      ((l = .width ∧ s.hostWrite l v = s.setWidthReg v) ∨ (l = .height ∧ s.hostWrite l v = s.setHeightReg v) ∨
        (l = .block ∧ s.hostWrite l v = s.setBlockReg v) ∨ (l = .palSize ∧ s.hostWrite l v = s.setPalSizeReg v) ∨
        (∃ j, l = .pal j ∧ s.hostWrite l v = s.setPalEntry j (rgbOf v)) ∨
        (∃ i, l = .frame i ∧ s.hostWrite l v = s.setPixel i v))) := by
  cases hb : s.busy <;> cases l <;> simp [State.hostWrite, hb]

/-- What a host read can do: put a word on the port's read data, and count a draw (20_memory.md R66, R73 (d)). -/
theorem State.hostRead_frame (l : Loc) (s : State) :
    s.hostRead l = { s with rdata := (s.hostRead l).rdata, draws := (s.hostRead l).draws } := by
  cases l <;> try rfl
  rename_i i
  unfold State.hostRead
  by_cases hb : s.busy = true
  · simp only [hb, if_true]; rfl
  · simp only [hb]; rfl

/-! ### The end of a run -/

/-- When a run is over (70_reset_and_hazards.md R239). -/
theorem State.runOver_iff {s : State} :
    s.runOver = true ↔ (∀ e ∈ s.script, e.isTransaction = false) ∧ s.pend = none := by
  simp [State.runOver]

end Sys2Proof.Machine
end

