-- ==== Sys2Proof/Laws/Port.lean ====
section
/-! SUPPORT. What the address map and a host transaction can do, said once (20_memory.md R60 to R66, R73). -/

namespace Sys2Proof.Machine

/-- An offset that the port carries is a multiple of 4 (20_memory.md R60). -/
theorem wellFormedOffset_mod {a : Offset} (ha : wellFormedOffset a = true) : a.toNat % 4 = 0 := by
  have h := congrArg BitVec.toNat (beq_iff_eq.1 ha)
  simpa [BitVec.extractLsb'] using h

/-- What an offset can name, and where (20_memory.md R60). -/
theorem locateOffset_cases (m n : Nat) (h4 : n % 4 = 0) :
    (locateOffset m n = .id ∧ n = 0x00) ∨ (locateOffset m n = .cmd ∧ n = 0x04) ∨
    (locateOffset m n = .status ∧ n = 0x08) ∨ (locateOffset m n = .irqEn ∧ n = 0x0C) ∨
    (locateOffset m n = .width ∧ n = 0x10) ∨ (locateOffset m n = .height ∧ n = 0x14) ∨
    (locateOffset m n = .block ∧ n = 0x18) ∨ (locateOffset m n = .palSize ∧ n = 0x1C) ∨
    (locateOffset m n = .cap ∧ n = 0x20) ∨
    (∃ j, locateOffset m n = .pal j ∧ j < 256 ∧ n = palOffset j) ∨
    (∃ i, locateOffset m n = .frame i ∧ i < m ∧ n = frameOffset i) ∨
    (locateOffset m n = .unmapped ∧
      ((0x24 ≤ n ∧ n < 0x400) ∨ (0x800 ≤ n ∧ n < 0x1000000) ∨ 0x1000000 + 4 * m ≤ n)) := by
  generalize hl : locateOffset m n = l
  unfold locateOffset at hl
  by_cases h0 : n = 0
  · rw [if_pos h0] at hl; exact .inl ⟨hl.symm, h0⟩
  rw [if_neg h0] at hl
  by_cases h1 : n = 4
  · rw [if_pos h1] at hl; exact .inr (.inl ⟨hl.symm, h1⟩)
  rw [if_neg h1] at hl
  by_cases h2 : n = 8
  · rw [if_pos h2] at hl; exact .inr (.inr (.inl ⟨hl.symm, h2⟩))
  rw [if_neg h2] at hl
  by_cases h3 : n = 12
  · rw [if_pos h3] at hl; exact .inr (.inr (.inr (.inl ⟨hl.symm, h3⟩)))
  rw [if_neg h3] at hl
  by_cases h4 : n = 16
  · rw [if_pos h4] at hl; exact .inr (.inr (.inr (.inr (.inl ⟨hl.symm, h4⟩))))
  rw [if_neg h4] at hl
  by_cases h5 : n = 20
  · rw [if_pos h5] at hl; exact .inr (.inr (.inr (.inr (.inr (.inl ⟨hl.symm, h5⟩)))))
  rw [if_neg h5] at hl
  by_cases h6 : n = 24
  · rw [if_pos h6] at hl; exact .inr (.inr (.inr (.inr (.inr (.inr (.inl ⟨hl.symm, h6⟩))))))
  rw [if_neg h6] at hl
  by_cases h7 : n = 28
  · rw [if_pos h7] at hl; exact .inr (.inr (.inr (.inr (.inr (.inr (.inr (.inl ⟨hl.symm, h7⟩)))))))
  rw [if_neg h7] at hl
  by_cases h8 : n = 32
  · rw [if_pos h8] at hl; exact .inr (.inr (.inr (.inr (.inr (.inr (.inr (.inr (.inl ⟨hl.symm, h8⟩))))))))
  rw [if_neg h8] at hl
  iterate 9 right
  by_cases hp : palBase ≤ n ∧ n < palBase + 4 * 256
  · rw [if_pos hp] at hl
    unfold palOffset
    exact .inl ⟨_, hl.symm, by omega, by unfold palBase at *; omega⟩
  rw [if_neg hp] at hl
  right
  by_cases hf : frameBase ≤ n ∧ n < frameBase + 4 * m
  · rw [if_pos hf] at hl
    unfold frameOffset
    exact .inl ⟨_, hl.symm, by omega, by unfold frameBase at *; omega⟩
  rw [if_neg hf] at hl
  unfold palBase at hp
  unfold frameBase at hf
  exact .inr ⟨hl.symm, by omega⟩

/-- A host write to a location other than CMD keeps the schedule. -/
theorem State.hostWrite_script (l : Loc) (v : Word) (s : State) : (s.hostWrite l v).script = s.script := by
  rcases s.hostWrite_cases l v with ⟨h, _⟩ | ⟨_, h⟩ | ⟨_, h⟩ | ⟨_, h⟩ |
    ⟨_, ⟨_, h⟩ | ⟨_, h⟩ | ⟨_, h⟩ | ⟨_, h⟩ | ⟨_, _, h⟩ | ⟨_, _, h⟩⟩ <;> rw [h] <;> rfl

/-- A step whose event is a host write to a location other than CMD. -/
theorem step_write {s : State} {a : Offset} {v : Word} {rest : List Event} {l : Loc}
    (hs : s.script = .write a v :: rest) (ha : wellFormedOffset a = true) (hl : s.locate a = l) (hn : l ≠ .cmd) :
    step s = .next { s.hostWrite l v with script := rest } := by
  have hd : s.due = .settle (s.hostWrite l v) := by
    unfold State.due
    rw [hs]
    simp only
    rw [if_pos ha, State.writeDue, hl, if_neg hn]
  rw [step_settle hd, State.advance, State.hostWrite_script, hs]
  rfl

/-- A step whose event is a host read. -/
theorem step_read {s : State} {a : Offset} {rest : List Event} {l : Loc}
    (hs : s.script = .read a :: rest) (ha : wellFormedOffset a = true) (hl : s.locate a = l) :
    step s = .next { s.hostRead l with script := rest } := by
  have hd : s.due = .settle (s.hostRead l) := by
    unfold State.due
    rw [hs]
    simp only
    rw [if_pos ha, hl]
  rw [step_settle hd, State.advance, show (s.hostRead l).script = s.script by rw [State.hostRead_frame], hs]
  rfl

/-- Every command goes on to a next state and keeps the schedule. -/
theorem exec_next (i : Instr) (s : State) : ∃ t, exec i s = .next t ∧ t.script = s.script := by
  rw [exec_eq]
  refine ⟨_, rfl, ?_⟩
  split
  · rw [State.complete_script, processing_frame]
  · rcases s.issue_cases i with ⟨_, h⟩ | ⟨_, _, _, h⟩ | ⟨_, _, h⟩ <;> rw [h] <;> rfl

end Sys2Proof.Machine
end

