-- ==== Sys2Proof/Machine/Script.lean ====
section
/-! DEFINITION. The host-script notation as functions to event lists (30_encoding.md R98, R99). -/

namespace Sys2Proof.Machine

/-- The offset that a register name, `PAL[j]` or `FRAME[i]` stands for (30_encoding.md R98; 20_memory.md R60). An
unmapped location has no name; its first offset stands for it. -/
def offsetOf : Loc → Offset
  | .id => 0x00#25
  | .cmd => 0x04#25
  | .status => 0x08#25
  | .irqEn => 0x0C#25
  | .width => 0x10#25
  | .height => 0x14#25
  | .block => 0x18#25
  | .palSize => 0x1C#25
  | .cap => 0x20#25
  | .pal j => BitVec.ofNat 25 (palOffset j)
  | .frame i => BitVec.ofNat 25 (frameOffset i)
  | .unmapped => 0x24#25

/-- `WR <loc>, <value>` (30_encoding.md R98). -/
def scriptWR (l : Loc) (v : Word) : List Event := [.write (offsetOf l) v]

/-- `RD <loc>` (30_encoding.md R98). -/
def scriptRD (l : Loc) : List Event := [.read (offsetOf l)]

/-- `STEP`: the engine's completion step happens here (30_encoding.md R98). -/
def scriptSTEP : List Event := [.engine]

/-- `RESET` (30_encoding.md R98). -/
def scriptRESET : List Event := [.reset]

/-- The five mnemonics: `WR CMD, <word>` (30_encoding.md R99). -/
def scriptCommand (i : Instr) : List Event := scriptWR .cmd (encode i)

/-- `DIM w, h` (30_encoding.md R99). -/
def scriptDIM (w h : Word) : List Event := scriptWR .width w ++ scriptWR .height h

/-- `PX i, r, g, b, a` (30_encoding.md R99). -/
def scriptPX (i : Nat) (r g b a : Byte) : List Event := scriptWR (.frame i) (a ++ colourOf r g b)

/-- `PX i, r, g, b`: a 3-component pixel, the A byte written as 0 (30_encoding.md R99). -/
def scriptPX3 (i : Nat) (r g b : Byte) : List Event := scriptPX i r g b 0#8

/-- `COL j, r, g, b` (30_encoding.md R99). -/
def scriptCOL (j : Nat) (r g b : Byte) : List Event := scriptWR (.pal j) ((colourOf r g b).setWidth 32)

/-- `WAIT` in a model without time: `n` reads of STATUS while busy, the engine's completion step, then one read
(30_encoding.md R99). -/
def scriptWAIT (n : Nat) : List Event :=
  (List.replicate n (scriptRD .status)).flatten ++ scriptSTEP ++ scriptRD .status

/-- `CLR mask` (30_encoding.md R99). -/
def scriptCLR (mask : Word) : List Event := scriptWR .status mask

end Sys2Proof.Machine
end

