-- ==== Sys2Proof/Tests/Slice0.lean ====
section
/-! SUPPORT. The model's own tests: ill-formed terms refused, words written out from the encoding, one step on a small
state for each command (expected values from 95_test_vectors.md), and for every statement with hypotheses a state that
meets them. -/

namespace Sys2Proof.Tests

open Sys2Proof.Machine

-- One theorem after the other: every `decide +kernel` in flight holds a thread of its own.
set_option Elab.async false

/-! ### Well-formedness: an ill-formed term for each check -/

/-- R90: bit 4, the lowest reserved bit, and bit 31, the highest. -/
theorem test_reserved_bits_refused :
    wellFormedWord 0x00000010#32 = false ∧ decode 0x00000010#32 = .error .reservedBits ∧
      wellFormedWord 0x80000001#32 = false ∧ decode 0x80000001#32 = .error .reservedBits := by decide

/-- R91: 0x5 and 0xF, the ends of the reserved operation codes. -/
theorem test_reserved_op_refused :
    wellFormedWord 0x00000005#32 = false ∧ decode 0x00000005#32 = .error .reservedOp ∧
      wellFormedWord 0x0000000F#32 = false ∧ decode 0x0000000F#32 = .error .reservedOp := by decide

/-- R65: an offset that is no multiple of 4. -/
theorem test_misaligned_offset_refused :
    wellFormedOffset 0x0000001#25 = false ∧ wellFormedOffset 0x0000006#25 = false := by decide

/-! ### The words of 30_encoding.md R91, bit by bit: ZERO is 28 bits of 0, then OP -/

theorem test_decode_nop : decode 0b00000000000000000000000000000000#32 = .ok .nop := by decide
theorem test_decode_pixmean : decode 0b00000000000000000000000000000001#32 = .ok .pixmean := by decide
theorem test_decode_pixmode : decode 0b00000000000000000000000000000010#32 = .ok .pixmode := by decide
theorem test_decode_qnear : decode 0b00000000000000000000000000000011#32 = .ok .qnear := by decide
theorem test_decode_qdith : decode 0b00000000000000000000000000000100#32 = .ok .qdith := by decide

/-! ### A small block -/

/-- A block of capacity 65536 with dimensions, block side, palette size, palette and bitmap as given, idle, everything
else as after reset. -/
def sample (w h p : BitVec 16) (k : BitVec 9) (pal : List Colour) (img : List Word) : State :=
  img.zipIdx.foldl (fun s e => s.setPixel e.2 e.1)
    (pal.zipIdx.foldl (fun s e => s.setPalEntry e.2 e.1)
      { State.reset with cap := 65536#23, width := w, height := h, block := p, palSize := k })

/-- The state with command `i` pending. -/
def pending (i : Instr) (s : State) : State := { s with pend := some i }

/-- The first `n` pixel words after an outcome. -/
def pixelsAfter (n : Nat) : Host.Outcome State Fault Refusal → List Word
  | .next t => (List.range n).map t.pixel
  | .fault _ => []
  | .refused _ => []

/-- STATUS after an outcome. -/
def statusAfter : Host.Outcome State Fault Refusal → Option Word
  | .next t => some t.statusWord
  | .fault _ => none
  | .refused _ => none

/-- The read data of the port after an outcome. -/
def rdataAfter : Host.Outcome State Fault Refusal → Option Word
  | .next t => some t.rdata
  | .fault _ => none
  | .refused _ => none

/-- A schedule put before the state. -/
def scheduled (l : List Event) (s : State) : State := { s with script := l }

/-- Vector Q1 of 95_test_vectors.md, and Q2's pixel beyond the bitmap. -/
def sampleQ1 : State :=
  sample 2 2 2 4 [0x000000#24, 0xFFFFFF#24, 0x0000FF#24, 0xFF0000#24]
    [0x111E1EC8#32, 0x22646464#32, 0x33808080#32, 0x44C81414#32, 0xDEADBEEF#32]

/-- The same in a block of capacity 8, so that the last FRAME entry is near. -/
def sampleCap8 : State := { sampleQ1 with cap := 8#23 }

/-- Vector D7. -/
def sampleD7 : State :=
  sample 2 2 8 4 [0x000000#24, 0xFFFFFF#24, 0x808080#24, 0x404040#24]
    [0x00E6E6E6#32, 0x001E1E1E#32, 0x00C8C8C8#32, 0x00A0A0A0#32]

/-- Vector D6. -/
def sampleD6 : State :=
  sample 3 1 8 4 [0x000000#24, 0xFFFFFF#24, 0x808080#24, 0x404040#24] [0x00A0A0A0#32, 0x00E6E6E6#32, 0x00646464#32]

/-- Vector M1. -/
def sampleM1 : State :=
  sample 5 3 2 8 []
    [0xA0FF0500#32, 0xA1F26025#32, 0xA2E5BB4A#32, 0xA3D8166F#32, 0xA4CB7194#32,
     0xA5BECCB9#32, 0xA6B127DE#32, 0xA7A48203#32, 0xA897DD28#32, 0xA98A384D#32,
     0xAA7D9372#32, 0xAB70EE97#32, 0xAC6349BC#32, 0xAD56A4E1#32, 0xAE49FF06#32]

/-- Vector O1. -/
def sampleO1 : State :=
  sample 4 2 2 8 []
    [0x01102030#32, 0x02405060#32, 0x03708090#32, 0x04708090#32, 0x05405060#32, 0x06102030#32, 0x07405060#32,
     0x08102030#32]

/-! ### One step for each command -/

/-- G7: acceptance. -/
theorem test_nop_accepted : statusAfter (step (sampleQ1.withFetchWord 32 0)) = some 0x00000001#32 := by decide

/-- G7: completion. -/
theorem test_nop_completes : statusAfter (step (pending .nop sampleQ1)) = some 0x00000002#32 := by decide

/-- M1. -/
theorem test_pixmean_M1 : pixelsAfter 15 (step (pending .pixmean sampleM1)) =
    [0xA0D8566F#32, 0xA1D8566F#32, 0xA2BE8C39#32, 0xA3BE8C39#32, 0xA4AB5571#32,
     0xA5D8566F#32, 0xA6D8566F#32, 0xA7BE8C39#32, 0xA8BE8C39#32, 0xA9AB5571#32,
     0xAA77C185#32, 0xAB77C185#32, 0xAC5D77CF#32, 0xAD5D77CF#32, 0xAE49FF06#32] := by decide +kernel

/-- O1. -/
theorem test_pixmode_O1 : pixelsAfter 8 (step (pending .pixmode sampleO1)) =
    [0x01102030#32, 0x02102030#32, 0x03708090#32, 0x04708090#32, 0x05102030#32, 0x06102030#32, 0x07708090#32,
     0x08708090#32] := by decide +kernel

/-- Q1, Q2. -/
theorem test_qnear_Q1 : pixelsAfter 5 (step (pending .qnear sampleQ1)) =
    [0x110000FF#32, 0x22000000#32, 0x33FFFFFF#32, 0x44FF0000#32, 0xDEADBEEF#32] := by decide +kernel

/-- D6: a negative accumulator rounds by floor. -/
theorem test_qdith_D6 : pixelsAfter 3 (step (pending .qdith sampleD6)) =
    [0x00808080#32, 0x00FFFFFF#32, 0x00404040#32] := by decide +kernel

/-- D7: shares that leave the image are dropped. -/
theorem test_qdith_D7 : pixelsAfter 4 (step (pending .qdith sampleD7)) =
    [0x00FFFFFF#32, 0x00000000#32, 0x00FFFFFF#32, 0x00808080#32] := by decide +kernel

/-- The rejection priorities of 95_test_vectors.md 2.2, W, H, P, K and the code. -/
theorem test_rejection_priority :
    (sample 0 0 0 0 [] []).validate = .cfgBlock ∧ (sample 0 0 8 3 [] []).validate = .cfgPal ∧
    (sample 0 0 8 257 [] []).validate = .cfgPal ∧ (sample 0 5 8 4 [] []).validate = .dim ∧
    (sample 5 0 8 256 [] []).validate = .dim ∧ (sample 300 300 8 8 [] []).validate = .dimCap ∧
    (sample 65535 65535 8 8 [] []).validate = .dimCap ∧ (sample 256 256 8 8 [] []).validate = .none ∧
    (sample 1 1 65535 256 [] []).validate = .none := by decide

/-- The rounding helpers at the values of 95_test_vectors.md 2.1. -/
theorem test_rounding :
    fdiv (-17) 16 = -2 ∧ cdiv 10 4 = 3 ∧ rhuDiv 46 4 = 12 ∧ rhuDiv 45 4 = 11 ∧ rhu16 24 = 2 ∧ rhu16 (-8) = 0 ∧
      rhu16 (-9) = -1 ∧ rhu16 (-77) = -5 := by decide

/-- G1: ID read through the port. -/
theorem test_read_id : rdataAfter (step (scheduled (scriptRD .id) sampleQ1)) = some 0x50514501#32 := by decide

/-- G5, G6: what PAL and FRAME keep of a written word. -/
theorem test_read_back :
    rdataAfter (step (scheduled (scriptRD (.frame 4)) sampleQ1)) = some 0xDEADBEEF#32 ∧
      rdataAfter (step (scheduled (scriptRD (.pal 3)) sampleQ1)) = some 0x00FF0000#32 := by decide +kernel

/-! ### Witnesses: states that meet the hypotheses of the statements -/

theorem witness_QnearResult :
    (pending .qnear sampleQ1).completionDue .qnear = true ∧ (pending .qnear sampleQ1).validate = .none := by decide

theorem witness_PixmeanResult :
    (pending .pixmean sampleM1).completionDue .pixmean = true ∧ (pending .pixmean sampleM1).validate = .none := by decide

theorem witness_PixmodeResult :
    (pending .pixmode sampleO1).completionDue .pixmode = true ∧ (pending .pixmode sampleO1).validate = .none := by decide

theorem witness_QdithResult :
    (pending .qdith sampleD7).completionDue .qdith = true ∧ (pending .qdith sampleD7).validate = .none := by decide

theorem witness_NopCompletion : (pending .nop State.reset).completionDue .nop = true := by decide

/-- A word with a reserved bit set, one with none but a reserved operation code, each at both ends. -/
theorem witness_InvalidWordRefusedByName :
    (0x00000010#32 : Word).extractLsb' 4 28 ≠ 0#28 ∧ (0x80000000#32 : Word).extractLsb' 4 28 ≠ 0#28 ∧
    (0x00000005#32 : Word).extractLsb' 4 28 = 0#28 ∧ 5 ≤ ((0x00000005#32 : Word).extractLsb' 0 4).toNat ∧
    (0x0000000F#32 : Word).extractLsb' 4 28 = 0#28 ∧ 5 ≤ ((0x0000000F#32 : Word).extractLsb' 0 4).toNat := by decide

theorem witness_StepRunsTheCommandWritten :
    (scheduled [.write 0x0000004#25 3#32, .engine] sampleQ1).script = .write 0x0000004#25 3#32 :: [.engine] ∧
    decode 3#32 = .ok .qnear ∧ decodeTableWord 32 4 = some .qdith ∧ decodeTableWord 32 0 = some .nop := by decide

theorem witness_EngineTurnRunsThePendingCommand :
    (pending .qdith sampleD7).pend = some .qdith ∧ (pending .qdith sampleD7).script = [] ∧
    (scheduled [.engine] (pending .qdith sampleD7)).script = .engine :: [] := by decide

theorem witness_IdleCommandAccepted :
    sampleQ1.pend = none ∧ sampleQ1.validate = .none ∧ (sample 0 0 0 0 [] []).pend = none ∧
      (sample 0 0 0 0 [] []).validate ≠ .none := by decide

theorem witness_InvalidConfigurationRejected :
    (sample 0 5 8 4 [] []).pend = none ∧ Instr.qdith ≠ .nop ∧ (sample 0 5 8 4 [] []).validate ≠ .none := by decide

theorem witness_IllegalWordRejected :
    (scheduled [.write 0x0000004#25 5#32] sampleQ1).script = [.write 0x0000004#25 5#32] ∧
    (scheduled [.write 0x0000004#25 5#32] sampleQ1).pend = none ∧ ∀ i : Instr, (5#32 : Word) ≠ encode i :=
  ⟨rfl, rfl, fun i => by cases i <;> decide⟩

/-- One offset of each kind, and both ends of PAL and FRAME. -/
theorem witness_BusyWriteDropped :
    (pending .nop sampleCap8).pend ≠ none ∧
    [(0x04#25 : Offset), 0x10#25, 0x14#25, 0x18#25, 0x1C#25, 0x400#25, 0x7FC#25, 0x1000000#25, 0x100001C#25].all
      wellFormedOffset = true ∧
    sampleCap8.locate 0x04#25 = .cmd ∧ sampleCap8.locate 0x10#25 = .width ∧ sampleCap8.locate 0x14#25 = .height ∧
    sampleCap8.locate 0x18#25 = .block ∧ sampleCap8.locate 0x1C#25 = .palSize ∧ sampleCap8.locate 0x400#25 = .pal 0 ∧
    sampleCap8.locate 0x7FC#25 = .pal 255 ∧ sampleCap8.locate 0x1000000#25 = .frame 0 ∧
    sampleCap8.locate 0x100001C#25 = .frame 7 := by decide +kernel

theorem witness_NearestIsLeastIndexOfMinimalDistance : 1 ≤ sampleQ1.palK ∧ 1 < sampleQ1.palK := by decide

theorem witness_QnearOrderIsFree : [3, 1, 0, 2].Perm (List.range (sampleQ1.imgW * sampleQ1.imgH)) := by decide

theorem witness_BlockOrderIsFree :
    [(1, 1), (0, 0), (1, 0), (0, 1)].Perm ((List.range { sampleQ1 with block := 1 }.nby).flatMap fun bY =>
      (List.range { sampleQ1 with block := 1 }.nbx).map fun bx => (bx, bY)) := by decide

/-- Two states that differ in P, in an entry of PAL not in use, in the flags and in the old accumulators. -/
theorem witness_MapperReadsBitmapAndPaletteAlone :
    ∃ s u : State, s ≠ u ∧ s.completionDue .qnear = true ∧ u.completionDue .qnear = true ∧ s.validate = .none ∧
      u.validate = .none ∧ s.sameBitmap u ∧ s.samePalette u :=
  ⟨pending .qnear sampleQ1,
    { pending .qnear (sampleQ1.setPalEntry 4 7#24) with block := 1, err := true, ditherErr := [Vec3.zero] },
    by decide +kernel, by decide, by decide, by decide, by decide, ⟨by decide, by decide, by decide +kernel⟩,
    ⟨by decide, by decide +kernel⟩⟩

/-- Two states that differ in K, in PAL and in the flags. -/
theorem witness_DownsamplerReadsBitmapAndBlockSizeAlone :
    ∃ s u : State, s ≠ u ∧ s.completionDue .pixmean = true ∧ u.completionDue .pixmean = true ∧ s.validate = .none ∧
      u.validate = .none ∧ s.sameBitmap u ∧ s.blockP = u.blockP :=
  ⟨pending .pixmean sampleQ1,
    { pending .pixmean (sampleQ1.setPalEntry 0 7#24) with palSize := 5, err := true },
    by decide +kernel, by decide, by decide, by decide, by decide, ⟨by decide, by decide, by decide +kernel⟩, by decide⟩

theorem witness_MappedColoursAreInThePalette :
    (∀ i ∈ [Instr.qnear, .qdith], (pending i sampleQ1).completionDue i = true ∧
      (pending i sampleQ1).validate = .none) ∧ 0 < sampleQ1.imgW * sampleQ1.imgH := by decide

theorem witness_MappingAgainChangesNothing :
    ∀ i ∈ [Instr.qnear, .qdith], (pending i sampleD7).completionDue i = true ∧
      (pending i sampleD7).validate = .none := by decide

theorem witness_DitherErrorIsBounded :
    (pending .qdith sampleD7).completionDue .qdith = true ∧ 1 < sampleD7.imgW ∧ 1 < sampleD7.imgH := by decide

/-- Accumulators at both ends of the range, and a step. -/
theorem witness_EveryStepKeepsAccumulatorsIn32Bits :
    (∀ e ∈ [({ r := -(2 ^ 31), g := 0, b := 2 ^ 31 - 1 } : Vec3)], e.within (-(2 ^ 31)) (2 ^ 31 - 1)) ∧
    ∃ t, step { sampleD7 with ditherErr := [{ r := -(2 ^ 31), g := 0, b := 2 ^ 31 - 1 }], pend := some .qdith } =
      .next t :=
  ⟨by simp [Vec3.within], _, rfl⟩

/-- Vector S6: the colour of every pixel is palette entry 1. -/
theorem witness_PaletteColouredBitmapDithersToItself :
    ∃ s : State, s.completionDue .qdith = true ∧ s.validate = .none ∧
      ∀ k, k < s.imgW * s.imgH → ∃ j, j < s.palK ∧ rgbOf (s.pixel k) = s.palEntry j :=
  ⟨pending .qdith (sample 3 2 8 4 [0x1E140A#24, 0x3264C8#24, 0x000000#24, 0xFFFFFF#24] (List.replicate 6 0x803264C8#32)),
    by decide, by decide, fun k hk => ⟨1, by decide, by revert k; decide +kernel⟩⟩

theorem witness_DitherFirstPixelAsQnear :
    (pending .qdith sampleD6).completionDue .qdith = true ∧ (pending .qdith sampleD6).validate = .none := by decide

theorem witness_DitherForgetsOldAccumulators : (pending .qdith sampleD6).completionDue .qdith = true := by decide

/-- The 10 by 10 bitmap with P = 4 of S7: inner, truncated and corner blocks. -/
theorem witness_BlocksPartitionTheBitmap :
    1 ≤ (sample 10 10 4 8 [] []).blockP ∧ 1 ≤ (sample 10 10 4 8 [] []).imgW ∧ 1 ≤ (sample 10 10 4 8 [] []).imgH ∧
    2 < (sample 10 10 4 8 [] []).nbx ∧ 2 < (sample 10 10 4 8 [] []).nby := by decide

theorem witness_ChannelMeanIsRoundedHalfUp : [0x000001#24, 0x000002#24] ≠ ([] : List Colour) := by decide

/-- A list, and the only pixel of the truncated corner block (2, 1) of M1's bitmap. -/
theorem witness_ModeIsFirstMostFrequentColour :
    [0x000001#24, 0x000002#24] ≠ ([] : List Colour) ∧
    2 * sampleM1.blockP ≤ 4 ∧ 4 < min (2 * sampleM1.blockP + sampleM1.blockP) sampleM1.imgW ∧
    1 * sampleM1.blockP ≤ 2 ∧ 2 < min (1 * sampleM1.blockP + sampleM1.blockP) sampleM1.imgH := by decide

theorem witness_BlockSizeOneIsIdentity :
    ∀ i ∈ [Instr.pixmean, .pixmode], (pending i { sampleQ1 with block := 1 }).completionDue i = true ∧
      (pending i { sampleQ1 with block := 1 }).block = 1#16 := by decide

theorem witness_BlocksAreUniformAfterwards :
    ∀ i ∈ [Instr.pixmean, .pixmode], (pending i sampleM1).completionDue i = true ∧
      (pending i sampleM1).validate = .none ∧ 0 ∈ sampleM1.blockIndices 0 0 ∧ 6 ∈ sampleM1.blockIndices 0 0 := by decide

theorem witness_DownsamplingAgainChangesNothing :
    ∀ i ∈ [Instr.pixmean, .pixmode], (pending i sampleM1).completionDue i = true ∧
      (pending i sampleM1).validate = .none := by decide

theorem witness_ModeColourComesFromItsBlock :
    (pending .pixmode sampleO1).completionDue .pixmode = true ∧ (pending .pixmode sampleO1).validate = .none ∧
      7 ∈ sampleO1.blockIndices 1 0 := by decide

theorem witness_RoundingHelpersRoundHalfUp : (0 : Int) < 1 ∧ (0 : Int) < 16 ∧ (0 : Nat) < 1 := by decide

/-- Both ends of every range of the address map, capacity 8. -/
theorem witness_AddressMapIsAsStated :
    [(0x24#25 : Offset), 0x3FC#25, 0x400#25, 0x7FC#25, 0x800#25, 0x0FFFFFC#25, 0x1000000#25, 0x100001C#25,
      0x1000020#25, 0x1FFFFFC#25].all wellFormedOffset = true ∧
    sampleCap8.locate 0x24#25 = .unmapped ∧ sampleCap8.locate 0x3FC#25 = .unmapped ∧
    sampleCap8.locate 0x400#25 = .pal 0 ∧ sampleCap8.locate 0x7FC#25 = .pal 255 ∧
    sampleCap8.locate 0x800#25 = .unmapped ∧ sampleCap8.locate 0x0FFFFFC#25 = .unmapped ∧
    sampleCap8.locate 0x1000000#25 = .frame 0 ∧ sampleCap8.locate 0x100001C#25 = .frame 7 ∧
    sampleCap8.locate 0x1000020#25 = .unmapped ∧ sampleCap8.locate 0x1FFFFFC#25 = .unmapped := by decide +kernel

theorem witness_IdleOperandRegisterWrites :
    ∀ o ∈ [(0x0000010#25 : Offset), 0x0000014#25, 0x0000018#25, 0x000001C#25],
      (scheduled [.write o 0xFFFFFFFF#32] sampleQ1).pend = none ∧
      (scheduled [.write o 0xFFFFFFFF#32] sampleQ1).script = [.write o 0xFFFFFFFF#32] :=
  fun _ _ => ⟨rfl, rfl⟩

theorem witness_StatusAndIrqenWrites :
    ∀ o ∈ [(0x0000008#25 : Offset), 0x000000C#25],
      (scheduled [.write o 0xFFFFFFFF#32] (pending .nop sampleQ1)).script = [.write o 0xFFFFFFFF#32] :=
  fun _ _ => rfl

theorem witness_ReadOnlyAndUnmappedAreInert :
    [(0x0000000#25 : Offset), 0x0000020#25, 0x0000024#25, 0x1000020#25].all wellFormedOffset = true ∧
    sampleCap8.locate 0x0000000#25 = .id ∧ sampleCap8.locate 0x0000020#25 = .cap ∧
    sampleCap8.locate 0x0000024#25 = .unmapped ∧ sampleCap8.locate 0x1000020#25 = .unmapped ∧
    (scheduled [.write 0x1000020#25 1#32] sampleCap8).script = [.write 0x1000020#25 1#32] ∧
    (scheduled [.read 0x0000024#25] sampleCap8).script = [.read 0x0000024#25] :=
  ⟨by decide, by decide +kernel, by decide +kernel, by decide +kernel, by decide +kernel, rfl, rfl⟩

/-- The first and the last entry of FRAME. -/
theorem witness_IdleFrameWriteStoresThePixel :
    sampleQ1.pend = none ∧ 0 < sampleQ1.maxPix ∧ 65535 < sampleQ1.maxPix ∧ sampleQ1.maxPix ≤ 2 ^ 22 ∧
    (scheduled [.write (BitVec.ofNat 25 (frameOffset 65535)) 1#32] sampleQ1).script =
      [.write (BitVec.ofNat 25 (frameOffset 65535)) 1#32] := by decide

/-- The first and the last entry of PAL. -/
theorem witness_IdlePaletteWriteStoresTheColour :
    sampleQ1.pend = none ∧ 0 < 256 ∧ 255 < 256 ∧
    (scheduled [.write (BitVec.ofNat 25 (palOffset 255)) 1#32] sampleQ1).script =
      [.write (BitVec.ofNat 25 (palOffset 255)) 1#32] := by decide

/-- Each register, and both ends of PAL and FRAME. -/
theorem witness_ReadsReturnTheStoredValue :
    [(0x00#25 : Offset), 0x04#25, 0x08#25, 0x0C#25, 0x10#25, 0x14#25, 0x18#25, 0x1C#25, 0x20#25, 0x400#25,
      0x7FC#25, 0x1000000#25, 0x100001C#25].all wellFormedOffset = true ∧
    (scheduled [.read 0x100001C#25] sampleCap8).script = [.read 0x100001C#25] ∧
    (0x400#25 : Offset).toNat = palOffset 0 ∧ (0x7FC#25 : Offset).toNat = palOffset 255 ∧
    (0x1000000#25 : Offset).toNat = frameOffset 0 ∧ (0x100001C#25 : Offset).toNat = frameOffset 7 ∧
    7 < sampleCap8.maxPix ∧ sampleCap8.pend = none :=
  ⟨by decide, rfl, by decide, by decide, by decide, by decide, by decide, rfl⟩

theorem witness_BusyFrameReadIsAFreshDraw :
    (scheduled [.read 0x1000000#25] (pending .nop sampleQ1)).script = [.read 0x1000000#25] ∧
    wellFormedOffset 0x1000000#25 = true ∧ (pending .nop sampleQ1).locate 0x1000000#25 = .frame 0 ∧
    (pending .nop sampleQ1).pend ≠ none := by decide +kernel

theorem witness_ResetEventRestoresResetState :
    (scheduled scriptRESET (pending .qdith sampleD7)).script = .reset :: [] ∧
    holdsByte (pending .qdith sampleD7).maxPix 0x400 = true ∧
    holdsByte (pending .qdith sampleD7).maxPix 0x103FFFF = true := by decide +kernel

theorem witness_FirstCommandAfterResetIsRejectedDim :
    ∀ i ∈ [Instr.pixmean, .pixmode, .qnear, .qdith], i ≠ Instr.nop := by decide

theorem witness_IdleBlockStaysIdle :
    sampleQ1.pend = none ∧ sampleQ1.script = [] ∧ (scheduled [.engine] sampleQ1).script = .engine :: [] := by decide

/-- A busy state with a listed memory and a rejection recorded meets the invariant, and steps. -/
theorem witness_EveryStepKeepsTheInvariant :
    { pending .qnear sampleQ1 with err := true, errCode := .dim }.Inv ∧
    ∃ t, step { pending .qnear sampleQ1 with err := true, errCode := .dim } = .next t :=
  ⟨{ cap := ⟨by decide, by decide⟩
     mem := ⟨by decide +kernel, by decide +kernel⟩
     err := by constructor <;> intro h <;> cases h
     pend := fun i h => ⟨rfl, fun _ => by decide⟩ }, _, rfl⟩

theorem witness_StepStopsOnlyOffThePort :
    (scheduled [.read 0x0000002#25] sampleQ1).script = .read 0x0000002#25 :: [] ∧
    Event.aligned (.read 0x0000002#25) = false := by decide

theorem witness_AlignedScheduleNeverStops :
    (scheduled (scriptWR .width 9#32 ++ scriptRD .status ++ scriptSTEP ++ scriptRESET) sampleQ1).alignedScript := by
  unfold State.alignedScript
  decide

/-- A dropped write, a FRAME read and the engine's turn while the command is pending. -/
theorem witness_AcceptedCommandCompletesOnItsOperands :
    ∃ s : State, s.pend = some .qnear ∧ s.alignedScript ∧ (∀ e ∈ s.script, e ≠ .reset) ∧ s.script.length = 3 :=
  ⟨scheduled [.write 0x0000010#25 9#32, .read 0x1000000#25, .engine] (pending .qnear sampleQ1), rfl,
    by unfold State.alignedScript; decide, by decide, rfl⟩

/-- The three causes: an idle write, a completion, and a reset that draws another value than the one listed. -/
theorem witness_MemoryChangesOnlyByItsThreeCauses :
    (∃ s t a, step s = .next t ∧ t.byteAt a ≠ s.byteAt a ∧ s.pend = none) ∧
    (∃ s t a, step s = .next t ∧ t.byteAt a ≠ s.byteAt a ∧ s.completionDue .qnear = true) ∧
    (∃ s t a, step s = .next t ∧ t.byteAt a ≠ s.byteAt a ∧ s.script = [.reset]) :=
  ⟨⟨scheduled [.write 0x1000000#25 0#32] sampleQ1, _, 0x1000000, rfl, by decide +kernel, by decide⟩,
   ⟨pending .qnear sampleQ1, _, 0x1000000, rfl, by decide +kernel, by decide⟩,
   ⟨{ scheduled [.reset] sampleQ1 with mem := [(0x400, Config.resetByte 1 0x400 + 1#8)] }, _, 0x400, rfl,
     by
       show Config.resetByte 1 0x400 ≠ Config.resetByte 1 0x400 + 1#8
       intro h
       have h' := congrArg BitVec.toNat h
       rw [BitVec.toNat_add] at h'
       have := (Config.resetByte 1 0x400).isLt
       change _ = (_ + 1) % 256 at h'
       omega, rfl⟩⟩

/-- R239: a run with the engine's turn and a reset left is over; one with a command pending or a transaction left is not. -/
theorem test_run_over :
    (scheduled [.engine, .reset] sampleQ1).runOver = true ∧ (pending .nop sampleQ1).runOver = false ∧
      (scheduled [.engine, .read 0x0000008#25] sampleQ1).runOver = false := by decide

theorem witness_EveryAlignedRunComesToItsEnd :
    (scheduled [.engine, .reset] sampleQ1).runOver = true ∧
      (scheduled [.write 0x0000004#25 0#32, .reset] sampleQ1).alignedScript :=
  ⟨by decide, by unfold State.alignedScript; decide⟩

end Sys2Proof.Tests
end

section
/-! Floor, ceiling and half-up rounding, each located by the inequalities that determine it (00_scope.md R8). -/

namespace Sys2Proof.Machine

theorem fdiv_mul_le {b : Int} (hb : 0 < b) (a : Int) : fdiv a b * b ≤ a :=
  Int.ediv_mul_le a hb.ne'

theorem lt_fdiv_add_one_mul {b : Int} (hb : 0 < b) (a : Int) : a < (fdiv a b + 1) * b :=
  Int.lt_ediv_add_one_mul_self a hb

/-- The floor of `(2a + b) / 2b` lies at most half a step above `a / b`; a tie goes up. -/
theorem rhuDiv_mul_le {b : Int} (hb : 0 < b) (a : Int) : (2 * rhuDiv a b - 1) * b ≤ 2 * a := by
  have hfloor : rhuDiv a b * (2 * b) ≤ 2 * a + b := fdiv_mul_le (by omega) _
  linarith

/-- The floor of `(2a + b) / 2b` lies less than half a step below `a / b`. -/
theorem lt_rhuDiv_mul {b : Int} (hb : 0 < b) (a : Int) : 2 * a < (2 * rhuDiv a b + 1) * b := by
  have hfloor : 2 * a + b < (rhuDiv a b + 1) * (2 * b) := lt_fdiv_add_one_mul (by omega) _
  linarith

/-- `(2e + 16) / 32` is `(e + 8) / 16` with the common factor 2 cancelled. -/
theorem rhu16_eq_rhuDiv (e : Int) : rhu16 e = rhuDiv e 16 :=
  calc rhu16 e = 2 * (e + 8) / (2 * 16) := (Int.mul_ediv_mul_of_pos _ _ two_pos).symm
    _ = rhuDiv e 16 := by rw [mul_add]; rfl

theorem le_cdiv_mul {b : Nat} (hb : 0 < b) (a : Nat) : a ≤ cdiv a b * b := by
  have hfloor : a + b - 1 < (cdiv a b + 1) * b := Nat.lt_mul_of_div_lt (Nat.lt_succ_self _) hb
  rw [Nat.succ_mul] at hfloor
  omega

theorem cdiv_mul_lt {b : Nat} (hb : 0 < b) (a : Nat) : cdiv a b * b < a + b := by
  have hfloor : cdiv a b * b ≤ a + b - 1 := Nat.div_mul_le_self _ _
  omega

/-- Settles O38: each helper by the inequalities of the floor it is defined with. -/
theorem roundingHelpersRoundHalfUp : Obligations.RoundingHelpersRoundHalfUp :=
  ⟨fun a _ hb => ⟨fdiv_mul_le hb a, lt_fdiv_add_one_mul hb a⟩,
   fun a _ hb => ⟨rhuDiv_mul_le hb a, lt_rhuDiv_mul hb a⟩,
   rhu16_eq_rhuDiv,
   fun a _ hb => ⟨le_cdiv_mul hb a, cdiv_mul_lt hb a⟩,
   fun _ => rfl⟩

end Sys2Proof.Machine
end

section
/-! The invariant of the block's states under each update, each command and each host transaction, and so under every
step (10_state.md R23, R29 to R31; 40_command_issue.md R111, R112, R117). -/

namespace Sys2Proof.Machine

theorem State.not_busy_iff {s : State} : s.busy = false ↔ s.pend = none := by
  simp [State.busy]

/-- With nothing pending, DONE and the configuration are free. -/
theorem State.pendLegal_of_idle {s : State} (hp : s.pend = none) : s.pendLegal :=
  fun i hi => by rw [hp] at hi; cases hi

namespace State.Inv

variable {s : State}

/-! ### Updates that the invariant allows at any time -/

theorem advance (h : s.Inv) : s.advance.Inv := ⟨h.cap, h.mem, h.err, h.pend⟩

theorem dropWrite (h : s.Inv) : s.dropWrite.Inv := ⟨h.cap, h.mem, h.err, h.pend⟩

theorem setIrqEn (h : s.Inv) (v : Word) : (s.setIrqEn v).Inv := ⟨h.cap, h.mem, h.err, h.pend⟩

theorem clearFlags (h : s.Inv) (v : Word) : (s.clearFlags v).Inv where
  cap := h.cap
  mem := h.mem
  err := by
    unfold State.errLegal
    rw [State.clearFlags_err, State.clearFlags_errCode]
    cases v.getLsbD 2 with
    | true => simp
    | false => simpa [State.errLegal] using h.err
  pend i hi := by
    obtain ⟨hdone, hvalid⟩ := h.pend i hi
    exact ⟨by simp [hdone], hvalid⟩

theorem reject (h : s.Inv) {c : ErrCode} (hc : c ≠ .none) : (s.reject c).Inv where
  cap := h.cap
  mem := h.mem
  err := by simp [State.errLegal, hc]
  pend := h.pend

/-- The configuration check of the acceptance is the one that the busy window relies on (40_command_issue.md R117). -/
theorem accept (h : s.Inv) {i : Instr} (hv : validated i = true → s.validate = .none) : (s.accept i).Inv where
  cap := h.cap
  mem := h.mem
  err := h.err
  pend j hj := by
    obtain rfl : i = j := Option.some.inj hj
    exact ⟨rfl, hv⟩

theorem resetEvent (h : s.Inv) : s.resetEvent.Inv where
  cap := h.cap
  mem := ⟨.nil, nofun⟩
  err := by simp [State.errLegal]
  pend := State.pendLegal_of_idle rfl

/-! ### Updates of the operand registers, PAL and FRAME -/

/-- Any configuration, legal or not, may be written while nothing is pending (10_state.md R37). -/
theorem withOperands (h : s.Inv) (hp : s.pend = none) (w ht p : BitVec 16) (k : BitVec 9) :
    { s with width := w, height := ht, block := p, palSize := k }.Inv :=
  ⟨h.cap, h.mem, h.err, State.pendLegal_of_idle hp⟩

theorem setPalEntry (h : s.Inv) (j : Nat) (q : Colour) : (s.setPalEntry j q).Inv :=
  ⟨h.cap, State.setPalEntry_memLegal h.mem j q, h.err, h.pend⟩

theorem setPixel (h : s.Inv) (i : Nat) (p : Word) : (s.setPixel i p).Inv :=
  ⟨h.cap, State.setPixel_memLegal h.mem i p, h.err, h.pend⟩

/-! ### Commands -/

/-- The processing touches memory and accumulators alone, and memory only where there is storage. -/
theorem after_processing (h : s.Inv) (i : Instr) : (processing i s).Inv := by
  have hm := processing_memLegal i h.mem
  rw [processing_frame] at hm ⊢
  exact ⟨h.cap, hm, h.err, h.pend⟩

theorem complete (h : s.Inv) : s.complete.Inv :=
  ⟨h.cap, h.mem, h.err, State.pendLegal_of_idle rfl⟩

theorem issue (h : s.Inv) (i : Instr) : (s.issue i).Inv := by
  obtain ⟨-, he⟩ | ⟨-, -, hc, he⟩ | ⟨-, hv, he⟩ := s.issue_cases i <;> rw [he]
  · exact h.dropWrite
  · exact h.reject hc
  · exact h.accept hv

theorem issueIllegal (h : s.Inv) : s.issueIllegal.Inv := by
  obtain ⟨-, he⟩ | ⟨-, he⟩ := s.issueIllegal_cases <;> rw [he]
  · exact h.dropWrite
  · exact h.reject nofun

theorem after_exec (h : s.Inv) {i : Instr} {t : State} (ht : exec i s = .next t) : t.Inv := by
  rw [exec_eq] at ht
  cases ht
  split
  · exact (h.after_processing i).complete
  · exact h.issue i

/-! ### Host transactions -/

theorem hostRead (h : s.Inv) (l : Loc) : (s.hostRead l).Inv := by
  rw [State.hostRead_frame]
  exact ⟨h.cap, h.mem, h.err, h.pend⟩

theorem hostWrite (h : s.Inv) (l : Loc) (v : Word) : (s.hostWrite l v).Inv := by
  obtain ⟨he, -⟩ | ⟨-, he⟩ | ⟨-, he⟩ | ⟨-, he⟩ |
    ⟨hb, ⟨-, he⟩ | ⟨-, he⟩ | ⟨-, he⟩ | ⟨-, he⟩ | ⟨j, -, he⟩ | ⟨i, -, he⟩⟩ := s.hostWrite_cases l v <;> rw [he]
  · exact h
  · exact h.clearFlags v
  · exact h.setIrqEn v
  · exact h.dropWrite
  · exact h.withOperands (State.not_busy_iff.1 hb) _ s.height s.block s.palSize
  · exact h.withOperands (State.not_busy_iff.1 hb) s.width _ s.block s.palSize
  · exact h.withOperands (State.not_busy_iff.1 hb) s.width s.height _ s.palSize
  · exact h.withOperands (State.not_busy_iff.1 hb) s.width s.height s.block _
  · exact h.setPalEntry j _
  · exact h.setPixel i v

/-! ### Steps -/

theorem step_of_run (h : s.Inv) {i : Instr} {t : State} (hd : s.due = .run i) (ht : step s = .next t) : t.Inv := by
  obtain ⟨u, hu, -⟩ := exec_next i s
  rw [step_run hd, hu] at ht
  cases ht
  exact (h.after_exec hu).advance

theorem step_of_settle {t u : State} (h : u.Inv) (hd : s.due = .settle u) (ht : step s = .next t) : t.Inv := by
  rw [step_settle hd] at ht
  cases ht
  exact h.advance

end State.Inv

theorem step_of_refuse {s : State} {r : Refusal} (h : s.due = .refuse r) : step s = .refused r := by
  rw [step, h]

/-- Settles O53: what the event now due asks for is one of the updates above, and each keeps the invariant. -/
theorem everyStepKeepsTheInvariant : Obligations.EveryStepKeepsTheInvariant := by
  intro s t h ht
  obtain ⟨i, -, -, hd⟩ | ⟨-, -, hd⟩ | ⟨_, _, _, i, -, -, -, -, hd⟩ | ⟨_, _, _, _, -, -, -, -, hd⟩ |
    ⟨a, v, _, -, -, -, hd⟩ | ⟨a, _, -, -, hd⟩ | ⟨_, -, hd⟩ | ⟨_, _, -, -, hd⟩ := s.due_cases
  · exact h.step_of_run hd ht
  · exact h.step_of_settle hd ht
  · exact h.step_of_run hd ht
  · exact h.issueIllegal.step_of_settle hd ht
  · exact (h.hostWrite _ v).step_of_settle hd ht
  · exact (h.hostRead _).step_of_settle hd ht
  · exact h.resetEvent.step_of_settle hd ht
  · rw [step_of_refuse hd] at ht
    cases ht

end Sys2Proof.Machine
end

section
/-! Host writes to the registers and host reads, each as one equation of the step (10_state.md R21 to R31; 20_memory.md
R66, R73 (b)). -/

namespace Sys2Proof.Machine

/-! ### Writes -/

theorem step_write_idle {s t : State} {a : Offset} {v : Word} {rest : List Event} {l : Loc} (hp : s.pend = none)
    (hs : s.script = .write a v :: rest) (ha : wellFormedOffset a = true) (hl : s.locate a = l) (hn : l ≠ .cmd)
    (hw : s.hostWrite l v = if s.busy then s.dropWrite else t) : step s = .next { t with script := rest } := by
  rw [step_write hs ha hl hn, hw, State.not_busy_iff.2 hp]
  rfl

/-- Settles O40: each of the four offsets names its register, whose write outside the busy window is its update. -/
theorem idleOperandRegisterWrites : Obligations.IdleOperandRegisterWrites :=
  fun s v _ hp =>
    ⟨fun hs => step_write_idle (t := s.setWidthReg v) hp hs rfl rfl nofun rfl,
     fun hs => step_write_idle (t := s.setHeightReg v) hp hs rfl rfl nofun rfl,
     fun hs => step_write_idle (t := s.setBlockReg v) hp hs rfl rfl nofun rfl,
     fun hs => step_write_idle (t := s.setPalSizeReg v) hp hs rfl rfl nofun rfl⟩

/-- Write one to clear: the flag goes where the bit is 1 and stays where it is 0 (10_state.md R23). -/
theorem clear_eq_ite (flag bit : Bool) : (flag && !bit) = if bit then false else flag := by
  cases bit <;> simp

/-- Settles O41: the two locations are written at any time, so no case of the busy window arises. -/
theorem statusAndIrqenWrites : Obligations.StatusAndIrqenWrites := by
  intro s v rest
  refine ⟨fun hs => ?_, fun hs => step_write hs rfl rfl nofun⟩
  simp only [← clear_eq_ite]
  exact step_write (l := .status) hs rfl rfl nofun

/-! ### Reads -/

/-- Above the registers there are PAL and FRAME (20_memory.md R60). -/
theorem locateOffset_above_registers (m : Nat) {n : Nat} (hn : 0x20 < n) :
    locateOffset m n =
      if palBase ≤ n ∧ n < palBase + 4 * 256 then .pal ((n - palBase) / 4)
      else if frameBase ≤ n ∧ n < frameBase + 4 * m then .frame ((n - frameBase) / 4)
      else .unmapped := by
  unfold locateOffset
  iterate 9 rw [if_neg (by omega)]

theorem locateOffset_palOffset (m : Nat) {j : Nat} (hj : j < 256) : locateOffset m (palOffset j) = .pal j := by
  rw [locateOffset_above_registers m (by unfold palOffset palBase; omega), if_pos (by unfold palOffset; omega)]
  exact congrArg Loc.pal (by unfold palOffset; omega)

theorem locateOffset_frameOffset {m i : Nat} (hi : i < m) : locateOffset m (frameOffset i) = .frame i := by
  rw [locateOffset_above_registers m (by unfold frameOffset frameBase; omega),
    if_neg (by unfold frameOffset frameBase palBase; omega), if_pos (by unfold frameOffset; omega)]
  exact congrArg Loc.frame (by unfold frameOffset; omega)

theorem State.hostRead_frame_idle {s : State} (hp : s.pend = none) (i : Nat) :
    s.hostRead (.frame i) = s.readReturns (s.pixel i) := by
  rw [State.hostRead, State.not_busy_iff.2 hp]
  rfl

/-- A read of offset `n`, whose location reads as `w`. -/
theorem step_read_returns {s : State} {a : Offset} {rest : List Event} {n : Nat} {l : Loc} {w : Word}
    (hs : s.script = .read a :: rest) (ha : wellFormedOffset a = true) (hn : a.toNat = n)
    (hl : locateOffset s.maxPix n = l) (hr : s.hostRead l = s.readReturns w) :
    step s = .next { s with rdata := w, script := rest } := by
  rw [step_read hs ha ((congrArg (locateOffset s.maxPix) hn).trans hl), hr]
  rfl

/-- Settles O45: every location but FRAME reads as its value at any time, and FRAME does outside the busy window. -/
theorem readsReturnTheStoredValue : Obligations.ReadsReturnTheStoredValue :=
  fun _ _ _ hs ha =>
    ⟨fun hn => step_read_returns hs ha hn rfl rfl, fun hn => step_read_returns hs ha hn rfl rfl,
     fun hn => step_read_returns hs ha hn rfl rfl, fun hn => step_read_returns hs ha hn rfl rfl,
     fun hn => step_read_returns hs ha hn rfl rfl, fun hn => step_read_returns hs ha hn rfl rfl,
     fun hn => step_read_returns hs ha hn rfl rfl, fun hn => step_read_returns hs ha hn rfl rfl,
     fun hn => step_read_returns hs ha hn rfl rfl,
     fun _ hj hn => step_read_returns hs ha hn (locateOffset_palOffset _ hj) rfl,
     fun i hi hn hp => step_read_returns hs ha hn (locateOffset_frameOffset hi) (State.hostRead_frame_idle hp i)⟩

end Sys2Proof.Machine
end

section
/-! The STATUS and IRQEN words bit by bit, and the interrupt line that they determine (10_state.md R23, R24, R36). -/

namespace Sys2Proof.Machine

/-- The STATUS word, bit by bit (10_state.md R23). -/
theorem State.getLsbD_statusWord (s : State) (i : Nat) : s.statusWord.getLsbD i =
    if i = 0 then s.busy else if i = 1 then s.done else if i = 2 then s.err else if i = 3 then s.ovr
    else if 8 ≤ i then s.errCode.bits.getLsbD (i - 8) else false := by
  have hfields : s.statusWord.getLsbD i = (0#20 ++ s.errCode.bits ++ 0#4 ++ BitVec.ofBool s.ovr ++ BitVec.ofBool s.err
      ++ BitVec.ofBool s.done ++ BitVec.ofBool s.busy).getLsbD i := rfl
  rw [hfields]
  simp only [BitVec.getLsbD_append, BitVec.getLsbD_ofBool, BitVec.getLsbD_zero]
  match i with
  | 0 | 1 | 2 | 3 => rfl
  | n + 4 =>
    by_cases hlow : n < 4
    · simp [hlow, show ¬ 4 ≤ n by omega]
    · by_cases hcode : n - 4 < 4
      · simp [hlow, hcode, show 4 ≤ n by omega]
      · simp [hlow, hcode, BitVec.getLsbD_of_ge _ _ (Nat.le_of_not_lt hcode)]

/-- The IRQEN word, bit by bit (10_state.md R24). -/
theorem State.getLsbD_irqEnWord (s : State) (i : Nat) : s.irqEnWord.getLsbD i =
    if i = 1 then s.ieDone else if i = 2 then s.ieErr else if i = 3 then s.ieOvr else false := by
  have hfields : s.irqEnWord.getLsbD i = (0#28 ++ BitVec.ofBool s.ieOvr ++ BitVec.ofBool s.ieErr
      ++ BitVec.ofBool s.ieDone ++ 0#1).getLsbD i := rfl
  rw [hfields]
  simp only [BitVec.getLsbD_append, BitVec.getLsbD_ofBool, BitVec.getLsbD_zero]
  match i with
  | 0 | 1 | 2 | 3 => rfl
  | n + 4 => simp

theorem extractLsb'_eq_of_getLsbD {w : Word} {start len : Nat} {x : BitVec len}
    (h : ∀ i, i < len → w.getLsbD (start + i) = x.getLsbD i) : w.extractLsb' start len = x := by
  apply BitVec.eq_of_getLsbD_eq
  intro i hi
  rw [BitVec.getLsbD_extractLsb', h i hi, decide_eq_true hi, Bool.true_and]

theorem State.statusWord_bits_7_4 (s : State) : s.statusWord.extractLsb' 4 4 = 0#4 :=
  extractLsb'_eq_of_getLsbD fun i hi => by
    interval_cases i <;> exact s.getLsbD_statusWord _

theorem State.statusWord_bits_11_8 (s : State) : s.statusWord.extractLsb' 8 4 = s.errCode.bits :=
  extractLsb'_eq_of_getLsbD fun i hi => by
    interval_cases i <;> exact s.getLsbD_statusWord _

theorem State.statusWord_bits_31_12 (s : State) : s.statusWord.extractLsb' 12 20 = 0#20 :=
  extractLsb'_eq_of_getLsbD fun i _ => by
    have hbeyond : s.errCode.bits.getLsbD (12 + i - 8) = false := BitVec.getLsbD_of_ge _ _ (by omega)
    rw [State.getLsbD_statusWord, hbeyond, BitVec.getLsbD_zero]
    repeat rw [if_neg (by omega)]
    exact ite_self _

theorem State.irqEnWord_bits_31_4 (s : State) : s.irqEnWord.extractLsb' 4 28 = 0#28 :=
  extractLsb'_eq_of_getLsbD fun i _ => by
    rw [State.getLsbD_irqEnWord, BitVec.getLsbD_zero]
    repeat rw [if_neg (by omega)]

/-- BUSY is `PEND ≠ none` (10_state.md R34). -/
theorem State.busy_eq_decide (s : State) : s.busy = decide (s.pend ≠ none) := by
  unfold State.busy
  cases s.pend <;> rfl

/-- Settles O47, field by field of the two concatenations. -/
theorem statusAndIrqenWordLayout : Obligations.StatusAndIrqenWordLayout :=
  ⟨⟨rfl, rfl, rfl, rfl, rfl, rfl⟩, fun s =>
    ⟨(s.getLsbD_statusWord 0).trans s.busy_eq_decide, s.getLsbD_statusWord 1, s.getLsbD_statusWord 2,
     s.getLsbD_statusWord 3, s.statusWord_bits_7_4, s.statusWord_bits_11_8, s.statusWord_bits_31_12,
     s.getLsbD_irqEnWord 0, s.getLsbD_irqEnWord 1, s.getLsbD_irqEnWord 2, s.getLsbD_irqEnWord 3,
     s.irqEnWord_bits_31_4⟩⟩

/-! ### irq -/

theorem getLsbD_irqMask {i : Nat} (hi : i < 32) : (0xE#32).getLsbD i = decide (i = 1 ∨ i = 2 ∨ i = 3) := by
  decide +revert

/-- The mask 0xE keeps bits 1, 2 and 3. -/
theorem and_irqMask_eq_zero_iff (w : Word) :
    w &&& 0xE#32 = 0#32 ↔ w.getLsbD 1 = false ∧ w.getLsbD 2 = false ∧ w.getLsbD 3 = false := by
  constructor
  · intro h
    have hbit : ∀ i, (w &&& 0xE#32).getLsbD i = false := fun i => by rw [h, BitVec.getLsbD_zero]
    exact ⟨by simpa using hbit 1, by simpa using hbit 2, by simpa using hbit 3⟩
  · rintro ⟨h1, h2, h3⟩
    apply BitVec.eq_of_getLsbD_eq
    intro i hi
    rw [BitVec.getLsbD_and, getLsbD_irqMask hi, BitVec.getLsbD_zero]
    by_cases hm : i = 1 ∨ i = 2 ∨ i = 3
    · obtain rfl | rfl | rfl := hm
      · rw [h1, Bool.false_and]
      · rw [h2, Bool.false_and]
      · rw [h3, Bool.false_and]
    · rw [decide_eq_false hm, Bool.and_false]

/-- Settles O48: the mask leaves the three products of a flag and its enable. -/
theorem irqIsMaskedStatus : Obligations.IrqIsMaskedStatus := by
  refine fun s => ⟨rfl, ?_⟩
  have hdone : (s.statusWord &&& s.irqEnWord).getLsbD 1 = (s.done && s.ieDone) :=
    BitVec.getLsbD_and.trans (congrArg₂ and (s.getLsbD_statusWord 1) (s.getLsbD_irqEnWord 1))
  have herr : (s.statusWord &&& s.irqEnWord).getLsbD 2 = (s.err && s.ieErr) :=
    BitVec.getLsbD_and.trans (congrArg₂ and (s.getLsbD_statusWord 2) (s.getLsbD_irqEnWord 2))
  have hovr : (s.statusWord &&& s.irqEnWord).getLsbD 3 = (s.ovr && s.ieOvr) :=
    BitVec.getLsbD_and.trans (congrArg₂ and (s.getLsbD_statusWord 3) (s.getLsbD_irqEnWord 3))
  rw [Bool.eq_iff_iff, decide_eq_true_iff, Ne, and_irqMask_eq_zero_iff, hdone, herr, hovr, ← Bool.or_eq_false_iff,
    ← Bool.or_eq_false_iff, Bool.not_eq_false, ← Bool.or_assoc, State.irq]

end Sys2Proof.Machine
end

section
/-! Where the engine writes: the bytes outside the bitmap survive every command's processing, whatever the configuration
(20_memory.md R69; 40_command_issue.md R114). -/

namespace Sys2Proof.Machine

/-- `t` has the dimensions of `s` and, outside the bitmap of `s`, its bytes: what holds of every state that a processing
loop started in `s` passes through. -/
structure State.ChangesOnlyBitmap (s t : State) : Prop where
  imgW : t.imgW = s.imgW
  imgH : t.imgH = s.imgH
  outside : ∀ a, ¬ s.inBitmap a → t.byteAt a = s.byteAt a

namespace State.ChangesOnlyBitmap

variable {s t : State}

theorem refl (s : State) : s.ChangesOnlyBitmap s := ⟨rfl, rfl, fun _ _ => rfl⟩

theorem recolour (h : s.ChangesOnlyBitmap t) {i : Nat} (hi : i < s.imgW * s.imgH) (q : Colour) :
    s.ChangesOnlyBitmap (t.recolour q i) where
  imgW := h.imgW
  imgH := h.imgH
  outside a ha := by
    have hentry : a < frameOffset i ∨ frameOffset i + 4 ≤ a := by
      unfold State.inBitmap frameOffset at ha
      unfold frameOffset
      omega
    rw [State.byteAt_recolour_outside t q i hentry, h.outside a ha]

/-- The accumulators are no part of the memory. -/
theorem withErr (h : s.ChangesOnlyBitmap t) (d : List Vec3) : s.ChangesOnlyBitmap { t with ditherErr := d } where
  imgW := h.imgW
  imgH := h.imgH
  outside a ha := (State.byteAt_congr rfl rfl rfl a).trans (h.outside a ha)

theorem diffuse (h : s.ChangesOnlyBitmap t) (x y : Nat) (res : Vec3) : s.ChangesOnlyBitmap (t.diffuse x y res) := by
  rw [State.diffuse_errOnly]
  exact h.withErr _

theorem pixelIndex_lt (h : s.ChangesOnlyBitmap t) {x y : Nat} (hx : x < s.imgW) (hy : y < s.imgH) :
    t.pixelIndex x y < s.imgW * s.imgH := by
  have hlt := t.pixelIndex_lt (h.imgW ▸ hx) (h.imgH ▸ hy)
  rwa [h.imgW, h.imgH] at hlt

theorem qdithPixel (h : s.ChangesOnlyBitmap t) {x y : Nat} (hx : x < s.imgW) (hy : y < s.imgH) :
    s.ChangesOnlyBitmap (t.qdithPixel x y) :=
  (h.recolour (h.pixelIndex_lt hx hy) _).diffuse x y _

theorem aggregateBlock (h : s.ChangesOnlyBitmap t) (rep : List Colour → Colour) (bx bY : Nat) :
    s.ChangesOnlyBitmap (t.aggregateBlock rep bx bY) :=
  foldl_keeps _ s.ChangesOnlyBitmap _
    (fun _ _ hi hu => hu.recolour (h.imgW ▸ h.imgH ▸ t.blockIndices_lt hi) _) h

/-! ### The loops -/

theorem aggregate (rep : List Colour → Colour) (s : State) : s.ChangesOnlyBitmap (s.aggregate rep) := by
  rw [State.aggregate_eq_foldl]
  exact foldl_keeps _ s.ChangesOnlyBitmap _ (fun _ b _ ht => ht.aggregateBlock rep b.1 b.2) (refl s)

theorem qnear (s : State) : s.ChangesOnlyBitmap s.qnear :=
  foldl_keeps _ s.ChangesOnlyBitmap _ (fun _ _ hi ht => ht.recolour (List.mem_range.1 hi) _) (refl s)

theorem qdith (s : State) : s.ChangesOnlyBitmap s.qdith :=
  foldl_keeps _ s.ChangesOnlyBitmap _
    (fun _ _ hy ht => foldl_keeps (fun u x => u.qdithPixel x _) s.ChangesOnlyBitmap _
      (fun _ _ hx hu => hu.qdithPixel (List.mem_range.1 hx) (List.mem_range.1 hy)) ht)
    (show s.ChangesOnlyBitmap s.zeroErr from ⟨rfl, rfl, fun _ _ => rfl⟩)

end State.ChangesOnlyBitmap

theorem processing_changesOnlyBitmap (i : Instr) (s : State) : s.ChangesOnlyBitmap (processing i s) := by
  cases i with
  | nop => exact .refl s
  | pixmean => exact .aggregate meanColour s
  | pixmode => exact .aggregate modeColour s
  | qnear => exact .qnear s
  | qdith => exact .qdith s

/-- A command reaches a byte at its completion alone, and there within the bitmap; NOP reaches none
(40_command_issue.md R114, R116). -/
theorem exec_byteAt_changed {i : Instr} {s t : State} {a : Nat} (ht : exec i s = .next t)
    (hne : t.byteAt a ≠ s.byteAt a) : s.completionDue i = true ∧ i ≠ .nop ∧ s.inBitmap a := by
  rw [exec_eq] at ht
  cases ht
  split at hne
  · next hdue =>
    refine ⟨hdue, ?_, ?_⟩
    · rintro rfl
      exact hne rfl
    · by_contra ha
      exact hne ((processing_changesOnlyBitmap i s).outside a ha)
  · obtain ⟨-, he⟩ | ⟨-, -, -, he⟩ | ⟨-, -, he⟩ := s.issue_cases i <;> rw [he] at hne <;> exact absurd rfl hne

end Sys2Proof.Machine
end

section
/-! The address map in both directions, and the host transactions that store, drop, ignore or draw (20_memory.md R60 to
R63, R73). -/

namespace Sys2Proof.Machine

/-! ### The address map -/

/-- The offsets that a location stands at in a block of capacity `m` (20_memory.md R60). -/
def Loc.standsAt (m : Nat) : Loc → Nat → Prop
  | .id, n => n = 0x00
  | .cmd, n => n = 0x04
  | .status, n => n = 0x08
  | .irqEn, n => n = 0x0C
  | .width, n => n = 0x10
  | .height, n => n = 0x14
  | .block, n => n = 0x18
  | .palSize, n => n = 0x1C
  | .cap, n => n = 0x20
  | .pal j, n => j < 256 ∧ n = 0x400 + 4 * j
  | .frame i, n => i < m ∧ n = 0x1000000 + 4 * i
  | .unmapped, n => (0x24 ≤ n ∧ n < 0x400) ∨ (0x800 ≤ n ∧ n < 0x1000000) ∨ 0x1000000 + 4 * m ≤ n

theorem locateOffset_standsAt (m : Nat) {n : Nat} (h4 : n % 4 = 0) : (locateOffset m n).standsAt m n := by
  obtain ⟨hl, hn⟩ | ⟨hl, hn⟩ | ⟨hl, hn⟩ | ⟨hl, hn⟩ | ⟨hl, hn⟩ | ⟨hl, hn⟩ | ⟨hl, hn⟩ | ⟨hl, hn⟩ | ⟨hl, hn⟩ |
    ⟨_, hl, hn⟩ | ⟨_, hl, hn⟩ | ⟨hl, hn⟩ := locateOffset_cases m n h4 <;> rw [hl] <;> exact hn

theorem locateOffset_of_standsAt {m n : Nat} {l : Loc} (h : l.standsAt m n) : locateOffset m n = l := by
  cases l with
  | pal j =>
    obtain ⟨hj, rfl⟩ := h
    exact locateOffset_palOffset m hj
  | frame i =>
    obtain ⟨hi, rfl⟩ := h
    exact locateOffset_frameOffset hi
  | unmapped =>
    unfold Loc.standsAt at h
    rw [locateOffset_above_registers m (by omega), if_neg (by unfold palBase; omega),
      if_neg (by unfold frameBase; omega)]
  | _ =>
    obtain rfl : n = _ := h
    rfl

theorem State.locate_eq_iff {s : State} {a : Offset} (ha : wellFormedOffset a = true) (l : Loc) :
    s.locate a = l ↔ l.standsAt s.maxPix a.toNat :=
  ⟨fun h => h ▸ locateOffset_standsAt _ (wellFormedOffset_mod ha), locateOffset_of_standsAt⟩

/-- Settles O39: the map as a relation between locations and offsets, read at each location. -/
theorem addressMapIsAsStated : Obligations.AddressMapIsAsStated := by
  intro s a ha
  have hmap := s.locate_eq_iff ha
  exact ⟨hmap .id, hmap .cmd, hmap .status, hmap .irqEn, hmap .width, hmap .height, hmap .block, hmap .palSize,
    hmap .cap, fun j => hmap (.pal j), fun i => hmap (.frame i), hmap .unmapped⟩

theorem wellFormedOffset_ofNat {n : Nat} (h4 : n % 4 = 0) : wellFormedOffset (BitVec.ofNat 25 n) = true :=
  beq_iff_eq.2 (BitVec.eq_of_toNat_eq (by simp [h4]))

theorem State.locate_ofNat {s : State} {n : Nat} {l : Loc} (hl : l.standsAt s.maxPix n) (hn : n < 2 ^ 25) :
    s.locate (BitVec.ofNat 25 n) = l := by
  rw [State.locate, BitVec.toNat_ofNat, Nat.mod_eq_of_lt hn]
  exact locateOffset_of_standsAt hl

/-! ### Writes outside the busy window -/

/-- Settles O43: the entry's offset fits the port's 25 bits, and the write there is `setPixel`. -/
theorem idleFrameWriteStoresThePixel : Obligations.IdleFrameWriteStoresThePixel := by
  intro s i v rest hp hi hcap hs
  have hn : frameOffset i < 2 ^ 25 := by unfold frameOffset frameBase; omega
  have ha := wellFormedOffset_ofNat (n := frameOffset i) (by unfold frameOffset frameBase; omega)
  have hl : s.locate (BitVec.ofNat 25 (frameOffset i)) = .frame i := State.locate_ofNat ⟨hi, rfl⟩ hn
  exact ⟨_, step_write_idle (t := s.setPixel i v) hp hs ha hl nofun rfl, rfl, s.pixel_setPixel_self hi v,
    fun _ hout => s.byteAt_setPixel_outside i v hout⟩

/-- Settles O44: the same with `setPalEntry`, which bits 31:24 of the word do not reach. -/
theorem idlePaletteWriteStoresTheColour : Obligations.IdlePaletteWriteStoresTheColour := by
  intro s j v rest hp hj hs
  have hn : palOffset j < 2 ^ 25 := by unfold palOffset palBase; omega
  have ha := wellFormedOffset_ofNat (n := palOffset j) (by unfold palOffset palBase; omega)
  have hl : s.locate (BitVec.ofNat 25 (palOffset j)) = .pal j := State.locate_ofNat ⟨hj, rfl⟩ hn
  exact ⟨_, step_write_idle (t := s.setPalEntry j (rgbOf v)) hp hs ha hl nofun rfl, rfl,
    s.palEntry_setPalEntry_self hj (rgbOf v), fun _ hout => s.byteAt_setPalEntry_outside j (rgbOf v) hout⟩

/-! ### The busy window -/

theorem State.busy_iff {s : State} : s.busy = true ↔ s.pend ≠ none := by
  rw [State.busy_eq_decide, decide_eq_true_iff]

/-- A word written to CMD in the busy window leaves the same trace whether it decodes or not (20_memory.md R73 (a)). -/
theorem step_write_cmd_busy {s : State} {a : Offset} {v : Word} {rest : List Event} (hb : s.busy = true)
    (hs : s.script = .write a v :: rest) (ha : wellFormedOffset a = true) (hl : s.locate a = .cmd) :
    step s = .next s.dropWrite.advance := by
  have hdue : s.due = s.writeDue .cmd v := by
    unfold State.due
    rw [hs]
    simp only
    rw [if_pos ha, hl]
  cases hd : decode v with
  | ok i =>
    have hrun : s.due = .run i := by simp [hdue, State.writeDue, hd]
    have hnot : s.completionDue i = false := by simp [State.completionDue, State.engineDue, hs]
    rw [step_run hrun, exec_issue hnot, State.issue, if_pos hb]
    rfl
  | error e =>
    have hsettle : s.due = .settle s.issueIllegal := by simp [hdue, State.writeDue, hd]
    rw [step_settle hsettle, State.issueIllegal, if_pos hb]

/-- A write to a location whose writes the busy window drops. -/
theorem step_write_dropped {s : State} {a : Offset} {v : Word} {rest : List Event} {l : Loc}
    (hs : s.script = .write a v :: rest) (ha : wellFormedOffset a = true) (hl : s.locate a = l) (hn : l ≠ .cmd)
    (hw : s.hostWrite l v = s.dropWrite) : step s = .next { s with ovr := true, script := rest } := by
  rw [step_write hs ha hl hn, hw]
  rfl

/-- Settles O11: CMD by the command write's first test, the other locations by the host write's. -/
theorem busyWriteDropped : Obligations.BusyWriteDropped := by
  intro s a v rest hs ha hp hloc
  have hb := State.busy_iff.2 hp
  obtain hl | hl | hl | hl | hl | ⟨j, hl⟩ | ⟨i, hl⟩ := hloc
  · rw [step_write_cmd_busy hb hs ha hl, State.advance, State.dropWrite_script, hs]
    rfl
  · exact step_write_dropped hs ha hl nofun (if_pos hb)
  · exact step_write_dropped hs ha hl nofun (if_pos hb)
  · exact step_write_dropped hs ha hl nofun (if_pos hb)
  · exact step_write_dropped hs ha hl nofun (if_pos hb)
  · exact step_write_dropped hs ha hl nofun (if_pos hb)
  · exact step_write_dropped hs ha hl nofun (if_pos hb)

/-- Settles O42: at these locations the host write and the host read have no busy case. -/
theorem readOnlyAndUnmappedAreInert : Obligations.ReadOnlyAndUnmappedAreInert := by
  refine fun s a rest ha => ⟨fun v hs hloc => ?_, fun hs hl => step_read hs ha hl⟩
  obtain hl | hl | hl := hloc
  · exact step_write hs ha hl nofun
  · exact step_write hs ha hl nofun
  · exact step_write hs ha hl nofun

/-- Settles O46: the busy case of a FRAME read is `readDraw`. -/
theorem busyFrameReadIsAFreshDraw : Obligations.BusyFrameReadIsAFreshDraw := by
  intro s a i rest hs ha hl hp
  have hdraw : s.hostRead (.frame i) = s.readDraw := if_pos (State.busy_iff.2 hp)
  rw [step_read hs ha hl, hdraw]
  rfl

end Sys2Proof.Machine
end

section
/-! When a step has a next state: always but at a misaligned host access, and then it takes one event off the schedule
(20_memory.md R60, R65; 60_exceptions.md R203). -/

namespace Sys2Proof.Machine

theorem step_next_of_run {s : State} {i : Instr} (hd : s.due = .run i) :
    ∃ t, step s = .next t ∧ t.script = s.script.tail := by
  obtain ⟨u, hu, hscript⟩ := exec_next i s
  exact ⟨u.advance, by rw [step_run hd, hu]; rfl, congrArg List.tail hscript⟩

theorem step_next_of_settle {s u : State} (hd : s.due = .settle u) (hscript : u.script = s.script) :
    ∃ t, step s = .next t ∧ t.script = s.script.tail :=
  ⟨u.advance, step_settle hd, congrArg List.tail hscript⟩

theorem State.issueIllegal_script (s : State) : s.issueIllegal.script = s.script := by
  obtain ⟨-, h⟩ | ⟨-, h⟩ := s.issueIllegal_cases <;> rw [h] <;> rfl

theorem State.hostRead_script (l : Loc) (s : State) : (s.hostRead l).script = s.script := by
  rw [State.hostRead_frame]

/-- A step goes on and takes one event off the schedule, or it is refused at a misaligned access. -/
theorem step_cases (s : State) :
    (∃ t, step s = .next t ∧ t.script = s.script.tail) ∨
      (step s = .refused .misalignedOffset ∧ ∃ e rest, s.script = e :: rest ∧ e.aligned = false) := by
  obtain ⟨_, -, -, hd⟩ | ⟨-, -, hd⟩ | ⟨_, _, _, _, -, -, -, -, hd⟩ | ⟨_, _, _, _, -, -, -, -, hd⟩ |
    ⟨_, _, _, -, -, -, hd⟩ | ⟨_, _, -, -, hd⟩ | ⟨_, -, hd⟩ | ⟨e, rest, hs, he, hd⟩ := s.due_cases
  · exact .inl (step_next_of_run hd)
  · exact .inl (step_next_of_settle hd rfl)
  · exact .inl (step_next_of_run hd)
  · exact .inl (step_next_of_settle hd s.issueIllegal_script)
  · exact .inl (step_next_of_settle hd (State.hostWrite_script _ _ s))
  · exact .inl (step_next_of_settle hd (State.hostRead_script _ s))
  · exact .inl (step_next_of_settle hd rfl)
  · exact .inr ⟨step_of_refuse hd, e, rest, hs, he⟩

theorem step_of_misaligned {s : State} {e : Event} {rest : List Event} (hs : s.script = e :: rest)
    (he : e.aligned = false) : step s = .refused .misalignedOffset := by
  refine step_of_refuse ?_
  unfold State.due
  rw [hs]
  cases e with
  | write a v => exact if_neg (ne_true_of_eq_false he)
  | read a => exact if_neg (ne_true_of_eq_false he)
  | engine => cases he
  | reset => cases he

/-- Settles O55: the two cases of a step exclude each other, and a misaligned access falls under the second. -/
theorem stepStopsOnlyOffThePort : Obligations.StepStopsOnlyOffThePort := by
  intro s
  refine ⟨(step_cases s).imp (fun ⟨t, ht, _⟩ => ⟨t, ht⟩) And.left, ?_, fun ⟨_, _, hs, he⟩ => step_of_misaligned hs he⟩
  intro hrefused
  obtain ⟨t, ht, -⟩ | ⟨-, hevent⟩ := step_cases s
  · rw [ht] at hrefused
    cases hrefused
  · exact hevent

/-- A step on a schedule of existing transactions goes on, on a schedule of existing transactions. -/
theorem step_of_alignedScript {s : State} (h : s.alignedScript) : ∃ t, step s = .next t ∧ t.alignedScript := by
  obtain ⟨t, ht, hscript⟩ | ⟨-, e, rest, hs, he⟩ := step_cases s
  · exact ⟨t, ht, fun e he => h e (List.mem_of_mem_tail (hscript ▸ he))⟩
  · have haligned : e.aligned = true := h e (hs ▸ List.mem_cons_self)
    rw [he] at haligned
    cases haligned

/-- Settles O56, by induction on the number of steps. -/
theorem alignedScheduleNeverStops : Obligations.AlignedScheduleNeverStops := by
  intro n
  induction n with
  | zero => exact fun s h => ⟨s, rfl, h⟩
  | succ n ih =>
    intro s h
    obtain ⟨t, ht, hal⟩ := step_of_alignedScript h
    unfold runFor
    rw [ht]
    exact ih t hal

end Sys2Proof.Machine
end

section
/-! Which bytes a step can change (20_memory.md R66, R69, R73; 60_exceptions.md R199). -/

namespace Sys2Proof.Machine

theorem State.byteAt_issueIllegal (s : State) (a : Nat) : s.issueIllegal.byteAt a = s.byteAt a := by
  obtain ⟨-, h⟩ | ⟨-, h⟩ := s.issueIllegal_cases <;> rw [h] <;> rfl

theorem State.byteAt_hostRead (l : Loc) (s : State) (a : Nat) : (s.hostRead l).byteAt a = s.byteAt a := by
  rw [State.hostRead_frame]
  rfl

/-- A host write reaches a byte of the PAL or FRAME entry that it names alone, and only with nothing pending. -/
theorem State.byteAt_hostWrite_changed {s : State} {l : Loc} {v : Word} {a : Nat}
    (hne : (s.hostWrite l v).byteAt a ≠ s.byteAt a) :
    s.pend = none ∧ ((∃ j, l = .pal j ∧ palOffset j ≤ a ∧ a < palOffset j + 4) ∨
      ∃ i, l = .frame i ∧ frameOffset i ≤ a ∧ a < frameOffset i + 4) := by
  obtain ⟨he, -⟩ | ⟨-, he⟩ | ⟨-, he⟩ | ⟨-, he⟩ |
    ⟨hb, ⟨-, he⟩ | ⟨-, he⟩ | ⟨-, he⟩ | ⟨-, he⟩ | ⟨j, hl, he⟩ | ⟨i, hl, he⟩⟩ := s.hostWrite_cases l v <;> rw [he] at hne
  iterate 8 exact absurd rfl hne
  · refine ⟨State.not_busy_iff.1 hb, .inl ⟨j, hl, ?_⟩⟩
    by_contra hout
    exact hne (s.byteAt_setPalEntry_outside j _ (by omega))
  · refine ⟨State.not_busy_iff.1 hb, .inr ⟨i, hl, ?_⟩⟩
    by_contra hout
    exact hne (s.byteAt_setPixel_outside i v (by omega))

/-- The word that a host write changes a byte of is the word at the write's own offset. -/
theorem State.byteAt_hostWrite_locate_changed {s : State} {o : Offset} {v : Word} {a : Nat}
    (ho : wellFormedOffset o = true) (hne : (s.hostWrite (s.locate o) v).byteAt a ≠ s.byteAt a) :
    s.pend = none ∧ o.toNat ≤ a ∧ a < o.toNat + 4 := by
  obtain ⟨hp, ⟨j, hl, hword⟩ | ⟨i, hl, hword⟩⟩ := State.byteAt_hostWrite_changed hne
  · obtain ⟨-, hoff⟩ := (State.locate_eq_iff ho _).1 hl
    exact ⟨hp, by rw [hoff]; exact hword⟩
  · obtain ⟨-, hoff⟩ := (State.locate_eq_iff ho _).1 hl
    exact ⟨hp, by rw [hoff]; exact hword⟩

/-- A step that runs a command changes what the command changes: moving the schedule on touches no byte. -/
theorem step_run_byteAt_changed {s t : State} {i : Instr} {a : Nat} (hd : s.due = .run i) (ht : step s = .next t)
    (hne : t.byteAt a ≠ s.byteAt a) : s.completionDue i = true ∧ i ≠ .nop ∧ s.inBitmap a := by
  obtain ⟨u, hu, -⟩ := exec_next i s
  rw [step_run hd, hu] at ht
  cases ht
  exact exec_byteAt_changed hu hne

theorem step_settle_byteAt {s t u : State} (hd : s.due = .settle u) (ht : step s = .next t) (a : Nat) :
    t.byteAt a = u.byteAt a := by
  rw [step_settle hd] at ht
  cases ht
  rfl

/-- Settles O58: of the events that can be due, a command reaches the bitmap at its completion, an idle write reaches its
word, a reset draws anew, and every other event leaves every byte as it is. -/
theorem memoryChangesOnlyByItsThreeCauses : Obligations.MemoryChangesOnlyByItsThreeCauses := by
  intro s t a ht hne
  obtain ⟨i, -, -, hd⟩ | ⟨-, -, hd⟩ | ⟨_, _, _, i, -, -, -, -, hd⟩ | ⟨_, _, _, _, -, -, -, -, hd⟩ |
    ⟨o, v, rest, hs, ho, -, hd⟩ | ⟨_, _, -, -, hd⟩ | ⟨rest, hs, -⟩ | ⟨_, _, -, -, hd⟩ := s.due_cases
  · exact .inr (.inl ⟨i, step_run_byteAt_changed hd ht hne⟩)
  · exact absurd (step_settle_byteAt hd ht a) hne
  · exact .inr (.inl ⟨i, step_run_byteAt_changed hd ht hne⟩)
  · exact absurd ((step_settle_byteAt hd ht a).trans (s.byteAt_issueIllegal a)) hne
  · rw [step_settle_byteAt hd ht] at hne
    obtain ⟨hp, hword⟩ := State.byteAt_hostWrite_locate_changed ho hne
    exact .inr (.inr ⟨hp, o, v, rest, hs, hword⟩)
  · exact absurd ((step_settle_byteAt hd ht a).trans (State.byteAt_hostRead _ s a)) hne
  · exact .inl ⟨rest, hs⟩
  · rw [step_of_refuse hd] at ht
    cases ht

end Sys2Proof.Machine
end

section
/-! Noninterference: a processing command run on two states that agree on what it reads leaves the same bitmap. The two
runs go in lockstep, each iteration keeping the agreement (20_memory.md R69; 00_scope.md R6, R11). -/

namespace Sys2Proof.Machine

/-- Two runs of one loop keep a relation that each iteration keeps. -/
theorem foldl_lockstep {α : Type} (f : State → α → State) (R : State → State → Prop) (l : List α)
    (h : ∀ t v, ∀ x ∈ l, R t v → R (f t x) (f v x)) {s u : State} (hs : R s u) : R (l.foldl f s) (l.foldl f u) := by
  induction l generalizing s u with
  | nil => exact hs
  | cons x rest ih =>
    exact ih (fun t v y hy => h t v y (List.mem_cons_of_mem _ hy)) (h s u x List.mem_cons_self hs)

/-! ### One bitmap in two states -/

/-- The two states hold the same W by H bitmap, each in a FRAME large enough for it. -/
structure State.BitmapAlike (W H : Nat) (s u : State) : Prop where
  imgW : s.imgW = W
  imgW' : u.imgW = W
  imgH : s.imgH = H
  imgH' : u.imgH = H
  fits : W * H ≤ s.maxPix
  fits' : W * H ≤ u.maxPix
  pixel : ∀ i, i < W * H → s.pixel i = u.pixel i

namespace State.BitmapAlike

variable {W H : Nat} {s u : State}

theorem of_validate (hvs : s.validate = .none) (hvu : u.validate = .none) (h : s.sameBitmap u) :
    BitmapAlike s.imgW s.imgH s u := by
  obtain ⟨hW, hH, hpixel⟩ := h
  obtain ⟨-, -, -, -, -, hfits⟩ := State.validate_none hvs
  obtain ⟨-, -, -, -, -, hfits'⟩ := State.validate_none hvu
  rw [← hW, ← hH] at hfits'
  exact ⟨rfl, hW.symm, rfl, hH.symm, hfits, hfits', hpixel⟩

theorem sameBitmap (h : BitmapAlike W H s u) : s.sameBitmap u :=
  ⟨h.imgW.trans h.imgW'.symm, h.imgH.trans h.imgH'.symm, fun i hi => h.pixel i (h.imgW ▸ h.imgH ▸ hi)⟩

theorem complete (h : BitmapAlike W H s u) : s.complete.sameBitmap u.complete := h.sameBitmap

theorem pixelIndex (h : BitmapAlike W H s u) (x y : Nat) : s.pixelIndex x y = u.pixelIndex x y := by
  rw [State.pixelIndex, State.pixelIndex, h.imgW, h.imgW']

theorem pixelIndex_lt (h : BitmapAlike W H s u) {x y : Nat} (hx : x < W) (hy : y < H) :
    u.pixelIndex x y < W * H := by
  have hlt := u.pixelIndex_lt (h.imgW'.symm ▸ hx) (h.imgH'.symm ▸ hy)
  rwa [h.imgW', h.imgH'] at hlt

theorem recolour (h : BitmapAlike W H s u) (q : Colour) (i : Nat) :
    BitmapAlike W H (s.recolour q i) (u.recolour q i) where
  imgW := h.imgW
  imgW' := h.imgW'
  imgH := h.imgH
  imgH' := h.imgH'
  fits := h.fits
  fits' := h.fits'
  pixel k hk := by
    rw [State.pixel_recolour, State.pixel_recolour, h.pixel k hk]
    by_cases hki : k = i
    · subst hki
      rw [if_pos ⟨rfl, hk.trans_le h.fits⟩, if_pos ⟨rfl, hk.trans_le h.fits'⟩]
    · rw [if_neg (fun hc => hki hc.1), if_neg (fun hc => hki hc.1)]

theorem fill (h : BitmapAlike W H s u) (q : Colour) (idx : List Nat) :
    BitmapAlike W H (s.fill q idx) (u.fill q idx) :=
  foldl_lockstep _ (BitmapAlike W H) idx (fun _ _ i _ ht => ht.recolour q i) h

end State.BitmapAlike

/-! ### The downsampler -/

/-- The two states agree on what PIXMEAN and PIXMODE read: the bitmap and P. -/
structure State.DownsamplesAlike (W H : Nat) (s u : State) : Prop extends State.BitmapAlike W H s u where
  blockP : s.blockP = u.blockP

namespace State.DownsamplesAlike

variable {W H : Nat} {s u : State}

theorem blockIndices (h : DownsamplesAlike W H s u) (bx bY : Nat) : s.blockIndices bx bY = u.blockIndices bx bY := by
  simp only [State.blockIndices, h.pixelIndex, h.blockP, h.imgW, h.imgW', h.imgH, h.imgH']

theorem coloursAt (h : DownsamplesAlike W H s u) (bx bY : Nat) :
    s.coloursAt (s.blockIndices bx bY) = u.coloursAt (s.blockIndices bx bY) :=
  List.map_congr_left fun i hi => congrArg rgbOf (h.pixel i (h.imgW ▸ h.imgH ▸ s.blockIndices_lt hi))

theorem blockList (h : DownsamplesAlike W H s u) : s.blockList = u.blockList := by
  simp only [State.blockList, State.nbx, State.nby, h.blockP, h.imgW, h.imgW', h.imgH, h.imgH']

theorem aggregateBlock (h : DownsamplesAlike W H s u) (rep : List Colour → Colour) (bx bY : Nat) :
    DownsamplesAlike W H (s.aggregateBlock rep bx bY) (u.aggregateBlock rep bx bY) where
  toBitmapAlike := by
    rw [State.aggregateBlock, State.aggregateBlock, ← h.blockIndices, h.coloursAt]
    exact h.fill _ _
  blockP := by
    rw [State.aggregateBlock_memOnly rep bx bY s, State.aggregateBlock_memOnly rep bx bY u]
    exact h.blockP

theorem aggregate (h : DownsamplesAlike W H s u) (rep : List Colour → Colour) :
    DownsamplesAlike W H (s.aggregate rep) (u.aggregate rep) := by
  rw [State.aggregate_eq_foldl, State.aggregate_eq_foldl, h.blockList]
  exact foldl_lockstep _ (DownsamplesAlike W H) _ (fun _ _ b _ ht => ht.aggregateBlock rep b.1 b.2) h

end State.DownsamplesAlike

/-- Settles O37: one lockstep run for both aggregators. -/
theorem downsamplerReadsBitmapAndBlockSizeAlone : Obligations.DownsamplerReadsBitmapAndBlockSizeAlone := by
  intro i s u hi hs hu hvs hvu hbitmap hP
  have h : State.DownsamplesAlike s.imgW s.imgH s u := ⟨.of_validate hvs hvu hbitmap, hP⟩
  refine ⟨_, _, exec_completion hs, exec_completion hu, ?_⟩
  obtain rfl | rfl := hi
  · exact (h.aggregate meanColour).complete
  · exact (h.aggregate modeColour).complete

/-! ### The mapper -/

/-- The two states agree on what QNEAR reads: the bitmap, K and the entries in use, of which there is one at least. -/
structure State.MapsAlike (W H : Nat) (s u : State) : Prop extends State.BitmapAlike W H s u where
  palK : s.palK = u.palK
  palPos : 0 < s.palK
  palEntry : ∀ j, j < s.palK → s.palEntry j = u.palEntry j

namespace State.MapsAlike

variable {W H : Nat} {s u : State}

theorem nearest (h : MapsAlike W H s u) (c : Vec3) : u.nearest c = s.nearest c :=
  State.nearest_congr h.palK.symm (h.palEntry 0 h.palPos).symm (fun j hj => (h.palEntry j hj).symm) c

theorem nearestEntry (h : MapsAlike W H s u) (c : Vec3) : s.palEntry (s.nearest c) = u.palEntry (u.nearest c) := by
  rw [h.nearest, h.palEntry _ (s.nearest_lt h.palPos c)]

theorem pixelVec (h : MapsAlike W H s u) {i : Nat} (hi : i < W * H) : s.pixelVec i = u.pixelVec i := by
  rw [State.pixelVec, State.pixelVec, h.pixel i hi]

theorem recolour (h : MapsAlike W H s u) (q : Colour) (i : Nat) : MapsAlike W H (s.recolour q i) (u.recolour q i) where
  toBitmapAlike := h.toBitmapAlike.recolour q i
  palK := h.palK
  palPos := h.palPos
  palEntry j hj := by
    have hbelow : j < 4194048 := hj.trans (s.palK_lt.trans (by norm_num))
    rw [State.palEntry_recolour s q i hbelow, State.palEntry_recolour u q i hbelow, h.palEntry j hj]

theorem qnearPixel (h : MapsAlike W H s u) {i : Nat} (hi : i < W * H) :
    MapsAlike W H (s.qnearPixel i) (u.qnearPixel i) := by
  rw [State.qnearPixel, State.qnearPixel, h.nearestEntry, h.pixelVec hi]
  exact h.recolour _ i

theorem qnear (h : MapsAlike W H s u) : MapsAlike W H s.qnear u.qnear := by
  rw [State.qnear, State.qnear, h.imgW, h.imgW', h.imgH, h.imgH']
  exact foldl_lockstep State.qnearPixel (MapsAlike W H) _ (fun _ _ _ hi ht => ht.qnearPixel (List.mem_range.1 hi)) h

/-- QNEAR does not read the accumulators. -/
theorem withErr (h : MapsAlike W H s u) (d d' : List Vec3) :
    MapsAlike W H { s with ditherErr := d } { u with ditherErr := d' } :=
  ⟨⟨h.imgW, h.imgW', h.imgH, h.imgH', h.fits, h.fits', h.pixel⟩, h.palK, h.palPos, h.palEntry⟩

end State.MapsAlike

/-- The two states agree on what the visits of QDITH read: what QNEAR reads, and the accumulators. -/
structure State.DithersAlike (W H : Nat) (s u : State) : Prop extends State.MapsAlike W H s u where
  ditherErr : s.ditherErr = u.ditherErr

namespace State.DithersAlike

variable {W H : Nat} {s u : State}

/-- The accumulators start at 0 whatever was left in them (42_ditherer.md R152). -/
theorem zeroErr (h : MapsAlike W H s u) : DithersAlike W H s.zeroErr u.zeroErr where
  toMapsAlike := h.withErr _ _
  ditherErr := by rw [State.zeroErr_ditherErr, State.zeroErr_ditherErr, h.imgW, h.imgW', h.imgH, h.imgH']

theorem recolour (h : DithersAlike W H s u) (q : Colour) (i : Nat) :
    DithersAlike W H (s.recolour q i) (u.recolour q i) :=
  ⟨h.toMapsAlike.recolour q i, h.ditherErr⟩

theorem addErr (h : DithersAlike W H s u) (inside : Bool) (x y : Nat) (w : Int) (res : Vec3) :
    DithersAlike W H (s.addErr inside x y w res) (u.addErr inside x y w res) where
  toMapsAlike := h.withErr _ _
  ditherErr := by rw [State.addErr_ditherErr, State.addErr_ditherErr, h.pixelIndex, h.ditherErr]

theorem diffuse (h : DithersAlike W H s u) (x y : Nat) (res : Vec3) :
    DithersAlike W H (s.diffuse x y res) (u.diffuse x y res) := by
  rw [State.diffuse, State.diffuse, h.imgW, h.imgW', h.imgH, h.imgH']
  exact (((h.addErr _ _ _ _ _).addErr _ _ _ _ _).addErr _ _ _ _ _).addErr _ _ _ _ _

theorem effective (h : DithersAlike W H s u) {x y : Nat} (hx : x < W) (hy : y < H) :
    s.effective x y = u.effective x y := by
  rw [State.effective, State.effective, State.errAt, State.errAt, h.pixelIndex, h.pixelVec (h.pixelIndex_lt hx hy),
    h.ditherErr]

theorem qdithPixel (h : DithersAlike W H s u) {x y : Nat} (hx : x < W) (hy : y < H) :
    DithersAlike W H (s.qdithPixel x y) (u.qdithPixel x y) := by
  simp only [State.qdithPixel, h.effective hx hy, h.nearestEntry, h.pixelIndex]
  exact (h.recolour _ _).diffuse x y _

theorem qdith (h : MapsAlike W H s u) : DithersAlike W H s.qdith u.qdith := by
  rw [State.qdith, State.qdith, h.imgW, h.imgW', h.imgH, h.imgH']
  exact foldl_lockstep _ (DithersAlike W H) _
    (fun _ _ y hy ht => foldl_lockstep (fun t x => t.qdithPixel x y) (DithersAlike W H) _
      (fun _ _ _ hx hu => hu.qdithPixel (List.mem_range.1 hx) (List.mem_range.1 hy)) ht) (zeroErr h)

end State.DithersAlike

/-- Settles O23: the lockstep run of each of the two mapping commands. -/
theorem mapperReadsBitmapAndPaletteAlone : Obligations.MapperReadsBitmapAndPaletteAlone := by
  intro i s u hi hs hu hvs hvu hbitmap hpal
  obtain ⟨hK, hentry⟩ := hpal
  obtain ⟨-, hfour, -⟩ := State.validate_none hvs
  have h : State.MapsAlike s.imgW s.imgH s u := ⟨.of_validate hvs hvu hbitmap, hK, by omega, hentry⟩
  refine ⟨_, _, exec_completion hs, exec_completion hu, ?_⟩
  obtain rfl | rfl := hi
  · exact h.qnear.complete
  · exact (State.DithersAlike.qdith h).complete

end Sys2Proof.Machine
end

section
/-! The command words (30_encoding.md R90, R91, R95, R96): a word is its two fields, and what the decoder, the table and
the well-formedness check answer on it is read off these. -/

namespace Sys2Proof

open Laws

/-! ### The word of a command -/

theorem commandWordIsItsOwn (i : Instr) : CommandWordIsItsOwn.Statement i := by
  cases i with
  | nop => exact CommandWordIsItsOwn.nop
  | pixmean => exact CommandWordIsItsOwn.pixmean
  | pixmode => exact CommandWordIsItsOwn.pixmode
  | qnear => exact CommandWordIsItsOwn.qnear
  | qdith => exact CommandWordIsItsOwn.qdith

theorem wellFormedWord_encode (i : Instr) : wellFormedWord (encode i) = true :=
  let ⟨_, hvalid, _⟩ := commandWordIsItsOwn i
  hvalid

theorem decode_encode (i : Instr) : decode (encode i) = .ok i :=
  let ⟨_, _, _, hdecode, _⟩ := commandWordIsItsOwn i
  hdecode

theorem tableDecode_encode (i : Instr) : tableDecode (encode i) = some i :=
  let ⟨_, _, _, _, htable⟩ := commandWordIsItsOwn i
  htable

theorem zeroField_append_opField (v : Word) : zeroField v ++ opField v = v :=
  (BitVec.extractLsb'_append_extractLsb'_eq_extractLsb' (start₁ := 0) rfl).trans BitVec.extractLsb'_eq_self

theorem eq_encode_of_fields {v : Word} {i : Instr} (hzero : zeroField v = 0#28) (hop : opField v = opOfCommand i) :
    v = encode i := by
  rw [← zeroField_append_opField v, hzero, hop, encode]

/-! ### The opcode map -/

theorem opOfCommand_of_commandOfOp {op : BitVec 4} {i : Instr} (h : commandOfOp op = some i) : op = opOfCommand i := by
  unfold commandOfOp at h
  split at h <;> cases h <;> exact BitVec.eq_of_toNat_eq ‹_›

/-- The reserved operation codes are those from 5 (30_encoding.md R91). -/
theorem commandOfOp_eq_none_iff {op : BitVec 4} : commandOfOp op = none ↔ 5 ≤ op.toNat := by
  unfold commandOfOp
  split
  case h_6 => exact iff_of_true rfl (by grind)
  all_goals exact iff_of_false nofun (by omega)

/-! ### The decoder -/

theorem decode_reservedBits {v : Word} (h : zeroField v ≠ 0#28) : decode v = .error .reservedBits :=
  if_neg (mt beq_iff_eq.1 h)

theorem decode_reservedOp {v : Word} (hzero : zeroField v = 0#28) (hop : 5 ≤ (opField v).toNat) :
    decode v = .error .reservedOp := by
  rw [decode, if_pos (show reservedFieldClear v = true from beq_iff_eq.2 hzero), commandOfOp_eq_none_iff.2 hop]

/-- A word fails the first check of R90, or the second alone, or is the word of a command. -/
theorem decode_cases (v : Word) :
    decode v = .error .reservedBits ∧ reservedFieldClear v = false ∨
      decode v = .error .reservedOp ∧ opAssigned v = false ∨ ∃ i, v = encode i := by
  by_cases hzero : zeroField v = 0#28
  · cases hop : commandOfOp (opField v) with
    | none =>
      have hfive := commandOfOp_eq_none_iff.1 hop
      exact .inr (.inl ⟨decode_reservedOp hzero hfive, decide_eq_false (Nat.not_le.2 hfive)⟩)
    | some i => exact .inr (.inr ⟨i, eq_encode_of_fields hzero (opOfCommand_of_commandOfOp hop)⟩)
  · exact .inl ⟨decode_reservedBits hzero, beq_eq_false_iff_ne.2 hzero⟩

theorem decode_eq_ok_iff {v : Word} {i : Instr} : decode v = .ok i ↔ v = encode i := by
  refine ⟨fun h => ?_, fun h => h ▸ decode_encode i⟩
  obtain ⟨herr, -⟩ | ⟨herr, -⟩ | ⟨j, rfl⟩ := decode_cases v
  · cases herr.symm.trans h
  · cases herr.symm.trans h
  · cases (decode_encode j).symm.trans h
    rfl

theorem wellFormedWord_eq_false_iff {v : Word} : wellFormedWord v = false ↔ ∃ e, decode v = .error e := by
  obtain ⟨herr, hclear⟩ | ⟨herr, hop⟩ | ⟨i, rfl⟩ := decode_cases v
  · exact iff_of_true (by rw [wellFormedWord, hclear, Bool.false_and]) ⟨_, herr⟩
  · exact iff_of_true (by rw [wellFormedWord, hop, Bool.and_false]) ⟨_, herr⟩
  · rw [wellFormedWord_encode, decode_encode]
    exact iff_of_false nofun nofun

/-! ### The table -/

/-- Each row compares the whole word with the word of its command (30_encoding.md R91). -/
theorem opcodeTable_row {row : Instr × Word × Word} (h : row ∈ opcodeTable) :
    row.2 = (encode row.1, BitVec.allOnes 32) := by
  revert row
  decide

theorem tableDecode_eq_some_iff {v : Word} {i : Instr} : tableDecode v = some i ↔ v = encode i := by
  refine ⟨fun h => ?_, fun h => h ▸ tableDecode_encode i⟩
  obtain ⟨row, hfind, rfl⟩ := Option.map_eq_some_iff.1 h
  have hhit : v &&& row.2.2 = row.2.1 := by simpa using List.find?_some hfind
  rwa [opcodeTable_row (List.mem_of_find?_eq_some hfind), BitVec.and_allOnes] at hhit

theorem toOption_eq_some_iff {ε α : Type} {x : Except ε α} {a : α} : x.toOption = some a ↔ x = .ok a := by
  cases x <;> simp [Except.toOption]

/-! ### The statements -/

/-- Settles O1: each command's word by its two fields, and the decoder by `decode_eq_ok_iff`. -/
theorem wordDecodesToCommandIffItIsItsEncoding : Obligations.WordDecodesToCommandIffItIsItsEncoding :=
  ⟨⟨rfl, rfl, rfl, rfl, rfl⟩, fun _ _ => decode_eq_ok_iff⟩

/-- Settles O2: the table and the decoder give a command on the same word, its encoding. -/
theorem tableDecoderAgreesWithDecoder : Obligations.TableDecoderAgreesWithDecoder := fun _ =>
  Option.ext fun _ => tableDecode_eq_some_iff.trans (decode_eq_ok_iff.symm.trans toOption_eq_some_iff.symm)

/-- Settles O3: the two names are the two checks of R90, in their order. -/
theorem invalidWordRefusedByName : Obligations.InvalidWordRefusedByName := fun _ =>
  ⟨wellFormedWord_eq_false_iff, decode_reservedBits, decode_reservedOp⟩

/-- Settles O4: the five commands' words, then one reserved operation code, then the two ends of the reserved field. -/
theorem spelledWordsDecode : Obligations.SpelledWordsDecode :=
  ⟨decode_encode .nop, decode_encode .pixmean, decode_encode .pixmode, decode_encode .qnear, decode_encode .qdith,
    decode_reservedOp (by decide) (by decide), decode_reservedBits (by decide), decode_reservedBits (by decide)⟩

end Sys2Proof
end

section
/-! The command write and the engine's turn: which step runs which command, and what the command does there
(40_command_issue.md R110 to R114, R116). -/

namespace Sys2Proof.Machine

/-! ### The step that runs a command -/

theorem State.due_of_command_write {s : State} {v : Word} {rest : List Event} {i : Instr}
    (hs : s.script = .write 0x0000004#25 v :: rest) (hv : decode v = .ok i) : s.due = .run i := by
  have hdue : s.due = s.writeDue .cmd v := by
    unfold State.due
    rw [hs]
    rfl
  rw [hdue, State.writeDue, if_pos rfl, hv]

theorem State.due_of_engine_turn {s : State} {i : Instr} (hp : s.pend = some i)
    (hs : s.script = [] ∨ ∃ rest, s.script = .engine :: rest) : s.due = .run i := by
  unfold State.due
  obtain hs | ⟨rest, hs⟩ := hs <;> rw [hs, hp]

/-- The command neither reads ahead nor rewrites the schedule: the step takes the one event off it. -/
theorem step_of_due_run {s : State} {i : Instr} (hd : s.due = .run i) :
    ∃ t, exec i s = .next t ∧ step s = .next { t with script := s.script.tail } := by
  obtain ⟨t, ht, hscript⟩ := exec_next i s
  refine ⟨t, ht, ?_⟩
  rw [step_run hd, ht, ← hscript]
  rfl

theorem decode_tableWord_of_decodeTableWord {n w : Nat} {i : Instr} (h : decodeTableWord n w = some i) :
    decode (tableWord n w) = .ok i := by
  unfold decodeTableWord at h
  split at h
  · exact toOption_eq_some_iff.1 h
  · cases h

/-- Settles O5: both writes make the decoded command due. -/
theorem stepRunsTheCommandWritten : Obligations.StepRunsTheCommandWritten := by
  refine ⟨fun s v rest i hs hv => ?_, fun s w i hw => ?_⟩
  · obtain ⟨t, ht, hstep⟩ := step_of_due_run (State.due_of_command_write hs hv)
    rw [hs] at hstep
    exact ⟨t, ht, hstep⟩
  · exact step_of_due_run (s := s.withFetchWord 32 w)
      (State.due_of_command_write rfl (decode_tableWord_of_decodeTableWord hw))

/-- Settles O6: both schedules make the pending command due. -/
theorem engineTurnRunsThePendingCommand : Obligations.EngineTurnRunsThePendingCommand :=
  fun _ _ hp hs => step_of_due_run (State.due_of_engine_turn hp hs)

/-! ### The command write at an idle block -/

theorem validated_iff {i : Instr} : validated i = true ↔ i ≠ .nop := by
  cases i <;> decide

/-- With nothing pending no completion is due, so a command is its command write. -/
theorem exec_idle {i : Instr} {s : State} (hp : s.pend = none) : exec i s = .next (s.issue i) :=
  exec_issue (by simp [State.completionDue, hp])

/-- Settles O7: the drop needs a busy block, and the rejection a check that fails. -/
theorem idleCommandAccepted : Obligations.IdleCommandAccepted := by
  intro i s hp hvalid
  rw [exec_idle hp]
  obtain ⟨hb, -⟩ | ⟨-, hv, hfails, -⟩ | ⟨-, -, he⟩ := s.issue_cases i
  · exact absurd hp (State.busy_iff.1 hb)
  · exact absurd (hvalid (validated_iff.1 hv)) hfails
  · rw [he]
    rfl

/-- Settles O8: the drop needs a busy block, and the acceptance of a checked command a valid configuration. -/
theorem invalidConfigurationRejected : Obligations.InvalidConfigurationRejected := by
  intro i s hp hi hfails
  rw [exec_idle hp]
  obtain ⟨hb, -⟩ | ⟨-, -, -, he⟩ | ⟨-, hvalid, -⟩ := s.issue_cases i
  · exact absurd hp (State.busy_iff.1 hb)
  · rw [he]
    rfl
  · exact absurd (hvalid (validated_iff.2 hi)) hfails

/-- Settles O10: the model's tests are R111's, read off the registers, in R111's order. -/
theorem validationReportsFirstFault : Obligations.ValidationReportsFirstFault :=
  fun _ => rfl

/-- Settles O12: the completion of a command whose processing is the identity. -/
theorem nopCompletion : Obligations.NopCompletion :=
  fun _ hdue => exec_completion hdue

end Sys2Proof.Machine
end

section
/-! What a command keeps, at its write and at its completion (40_command_issue.md R112 to R114, R117). -/

namespace Sys2Proof.Machine

/-- A command can change the flags, PEND, the memory and the accumulators. -/
theorem exec_frame {i : Instr} {s t : State} (ht : exec i s = .next t) :
    t = { s with
      done := t.done, err := t.err, ovr := t.ovr, errCode := t.errCode
      mem := t.mem, pend := t.pend, ditherErr := t.ditherErr } := by
  rw [exec_eq] at ht
  cases ht
  split
  · rw [processing_frame]
    rfl
  · obtain ⟨-, he⟩ | ⟨-, -, -, he⟩ | ⟨-, -, he⟩ := s.issue_cases i <;> rw [he] <;> rfl

/-- The bytes below FRAME lie outside every bitmap, so no command reaches them. -/
theorem exec_byteAt_low {i : Instr} {s t : State} (ht : exec i s = .next t) {a : Nat} (ha : a < frameBase) :
    t.byteAt a = s.byteAt a := by
  by_contra hne
  obtain ⟨-, -, hframe, -⟩ := exec_byteAt_changed ht hne
  exact absurd ha (Nat.not_lt.2 hframe)

/-- Settles O17: the registers by the frame of `exec`, the palette by its place below FRAME. -/
theorem commandsKeepOperandRegistersAndPalette : Obligations.CommandsKeepOperandRegistersAndPalette := by
  intro i s
  obtain ⟨t, ht, -⟩ := exec_next i s
  have hpal : ∀ j, j < 256 → t.palEntry j = s.palEntry j :=
    fun j hj => State.palEntry_of_low (fun a ha => exec_byteAt_low ht ha) (by omega)
  refine ⟨t, ht, ?_, ?_, ?_, ?_, ?_, ?_, ?_, ?_, hpal⟩ <;> rw [exec_frame ht]

end Sys2Proof.Machine
end

section
/-! The busy window: until the engine's turn the host reaches flags, interrupt enables and read data alone, and the
engine reads none of these; so a command computes from the operands and the memory of its acceptance
(20_memory.md R71, R73; 40_command_issue.md R115, R117). -/

namespace Sys2Proof.Machine

/-! ### The host's side of the state -/

/-- The operands, memory, PEND, accumulators and reset count of `s`, with the flags, interrupt enables, read data,
schedule and draw count of `u`: the latter are what the host reaches in the busy window. -/
def State.withHostSide (s u : State) : State :=
  { s with
    done := u.done, err := u.err, ovr := u.ovr, errCode := u.errCode
    ieDone := u.ieDone, ieErr := u.ieErr, ieOvr := u.ieOvr
    rdata := u.rdata, script := u.script, draws := u.draws }

theorem State.recolour_withHostSide (s u : State) (q : Colour) (i : Nat) :
    (s.withHostSide u).recolour q i = (s.recolour q i).withHostSide u := rfl

/-- A loop each of whose iterations neither reads nor writes the host's side does neither. -/
theorem foldl_withHostSide {α : Type} {f : State → α → State} (u : State)
    (h : ∀ t x, f (t.withHostSide u) x = (f t x).withHostSide u) (l : List α) (s : State) :
    l.foldl f (s.withHostSide u) = (l.foldl f s).withHostSide u :=
  List.foldl_hom (fun t : State => t.withHostSide u) h

theorem State.aggregateBlock_withHostSide (s u : State) (rep : List Colour → Colour) (bx bY : Nat) :
    (s.withHostSide u).aggregateBlock rep bx bY = (s.aggregateBlock rep bx bY).withHostSide u :=
  foldl_withHostSide u (fun t i => t.recolour_withHostSide u _ i) _ s

theorem State.aggregate_withHostSide (s u : State) (rep : List Colour → Colour) :
    (s.withHostSide u).aggregate rep = (s.aggregate rep).withHostSide u := by
  rw [State.aggregate_eq_foldl, State.aggregate_eq_foldl]
  exact foldl_withHostSide u (fun t b => t.aggregateBlock_withHostSide u rep b.1 b.2) _ s

theorem State.qnear_withHostSide (s u : State) : (s.withHostSide u).qnear = s.qnear.withHostSide u :=
  foldl_withHostSide u (fun t i => t.recolour_withHostSide u _ i) _ s

theorem State.qdithPixel_withHostSide (s u : State) (x y : Nat) :
    (s.withHostSide u).qdithPixel x y = (s.qdithPixel x y).withHostSide u := rfl

theorem State.qdith_withHostSide (s u : State) : (s.withHostSide u).qdith = s.qdith.withHostSide u :=
  foldl_withHostSide u (fun t y =>
    foldl_withHostSide u (fun v x => v.qdithPixel_withHostSide u x y) _ t) _ s.zeroErr

/-- The engine neither reads nor writes the host's side. -/
theorem processing_withHostSide (i : Instr) (s u : State) :
    processing i (s.withHostSide u) = (processing i s).withHostSide u := by
  cases i with
  | nop => rfl
  | pixmean => exact s.aggregate_withHostSide u meanColour
  | pixmode => exact s.aggregate_withHostSide u modeColour
  | qnear => exact s.qnear_withHostSide u
  | qdith => exact s.qdith_withHostSide u

/-! ### A step of the busy window -/

/-- In the busy window a host write outside CMD is dropped, ignored, or an update of the flags or interrupt enables. -/
theorem State.hostWrite_busy {s : State} (hb : s.busy = true) (l : Loc) (v : Word) :
    s.hostWrite l v = s.withHostSide (s.hostWrite l v) := by
  obtain ⟨he, -⟩ | ⟨-, he⟩ | ⟨-, he⟩ | ⟨-, he⟩ | ⟨hidle, -⟩ := s.hostWrite_cases l v
  case inr.inr.inr.inr => cases hb.symm.trans hidle
  all_goals rw [he]; rfl

theorem State.hostRead_hostSide (l : Loc) (s : State) : s.hostRead l = s.withHostSide (s.hostRead l) := by
  rw [State.hostRead_frame]
  rfl

/-- The step takes an event off the schedule and touches nothing else but the host's side. -/
def State.StepsOnHostSide (s : State) : Prop :=
  s.script ≠ [] ∧ ∃ t, step s = .next t ∧ t = s.withHostSide t ∧ t.script = s.script.tail

theorem State.stepsOnHostSide_of_settle {s u : State} {e : Event} {rest : List Event} (hs : s.script = e :: rest)
    (hd : s.due = .settle u) (hu : u = s.withHostSide u) (hscript : u.script = s.script) : s.StepsOnHostSide :=
  ⟨hs ▸ nofun, u.advance, step_settle hd, by rw [hu]; rfl, congrArg List.tail hscript⟩

theorem State.stepsOnHostSide_of_cmd_write {s : State} {a : Offset} {v : Word} {rest : List Event}
    (hb : s.busy = true) (hs : s.script = .write a v :: rest) (ha : wellFormedOffset a = true)
    (hl : s.locate a = .cmd) : s.StepsOnHostSide :=
  ⟨hs ▸ nofun, _, step_write_cmd_busy hb hs ha hl, rfl, rfl⟩

/-- With a command pending, a step that is neither a reset nor refused completes the command or is a host transaction
that touches the host's side alone. -/
theorem step_busy {s : State} {i : Instr} (hp : s.pend = some i) (hal : s.alignedScript)
    (hreset : ∀ e ∈ s.script, e ≠ .reset) :
    step s = .next (processing i s).complete.advance ∨ s.StepsOnHostSide := by
  have hb : s.busy = true := State.busy_iff.2 (by rw [hp]; nofun)
  obtain ⟨j, hturn, hj, hd⟩ | ⟨-, hnone, -⟩ | ⟨_, _, _, _, hs, ha, hl, -, -⟩ | ⟨_, _, _, _, hs, ha, hl, -, -⟩ |
    ⟨_, v, _, hs, -, -, hd⟩ | ⟨_, _, hs, -, hd⟩ | ⟨_, hs, -⟩ | ⟨e, _, hs, he, -⟩ := s.due_cases
  · obtain rfl : i = j := Option.some.inj (hp.symm.trans hj)
    rw [step_run hd, exec_completion (State.completionDue_iff.2 ⟨hturn, hp⟩)]
    exact .inl rfl
  · cases hp.symm.trans hnone
  · exact .inr (State.stepsOnHostSide_of_cmd_write hb hs ha hl)
  · exact .inr (State.stepsOnHostSide_of_cmd_write hb hs ha hl)
  · exact .inr (State.stepsOnHostSide_of_settle hs hd (State.hostWrite_busy hb _ v) (State.hostWrite_script _ v s))
  · exact .inr (State.stepsOnHostSide_of_settle hs hd (State.hostRead_hostSide _ s) (State.hostRead_script _ s))
  · exact absurd rfl (hreset .reset (hs ▸ List.mem_cons_self))
  · have haligned : e.aligned = true := hal e (hs ▸ List.mem_cons_self)
    rw [he] at haligned
    cases haligned

/-! ### The whole window -/

theorem runFor_succ {s t : State} (ht : step s = .next t) (n : Nat) : runFor (n + 1) s = runFor n t := by
  rw [runFor, ht]

/-- The run through the busy window ends in the completion of the command on the state it started from; only the
host's side shows what the host did meanwhile. -/
theorem busy_run_completes {s : State} {i : Instr} {l : List Event} (hl : s.script = l) (hp : s.pend = some i)
    (hal : s.alignedScript) (hreset : ∀ e ∈ s.script, e ≠ .reset) :
    ∃ n t, n ≤ l.length ∧ runFor (n + 1) s = .next t ∧ t.done = true ∧
      t = (processing i s).complete.withHostSide t := by
  induction l generalizing s with
  | nil =>
    obtain hstep | ⟨hne, -⟩ := step_busy hp hal hreset
    · exact ⟨0, _, le_rfl, runFor_succ hstep 0, rfl, rfl⟩
    · exact absurd hl hne
  | cons e rest ih =>
    obtain hstep | ⟨-, u, hstep, hu, hscript⟩ := step_busy hp hal hreset
    · exact ⟨0, _, Nat.zero_le _, runFor_succ hstep 0, rfl, rfl⟩
    · have hmem : ∀ e' ∈ u.script, e' ∈ s.script := fun e' he' => List.mem_of_mem_tail (hscript ▸ he')
      have hpu : u.pend = some i := by rw [hu]; exact hp
      obtain ⟨n, t, hn, hrun, hdone, ht⟩ := ih (by rw [hscript, hl, List.tail_cons]) hpu
        (fun e' he' => hal e' (hmem e' he')) (fun e' he' => hreset e' (hmem e' he'))
      rw [hu, processing_withHostSide] at ht
      exact ⟨n + 1, t, Nat.succ_le_succ hn, (runFor_succ hstep _).trans hrun, hdone, ht⟩

/-- Settles O57: the run's last state agrees with the completion of the first one on memory, PEND and operands, and the
processing keeps the operands. -/
theorem acceptedCommandCompletesOnItsOperands : Obligations.AcceptedCommandCompletesOnItsOperands := by
  intro s i hp hal hreset
  obtain ⟨n, t, hn, hrun, hdone, ht⟩ := busy_run_completes rfl hp hal hreset
  refine ⟨n, t, hn, hrun, ?_, hdone, ?_, ?_, ?_, ?_, ?_, ?_⟩
  · rw [ht]; rfl
  · rw [ht]; rfl
  all_goals rw [ht, processing_frame]; rfl

end Sys2Proof.Machine
end

section
/-! The distance and the nearest entry, located by what the mapper needs of them (41_color_mapper.md R131, R132). -/

namespace Sys2Proof.Machine

/-! ### The distance -/

theorem colourDist_eq_sum_sq (a b : Vec3) :
    colourDist a b = (a.r - b.r) ^ 2 + (a.g - b.g) ^ 2 + (a.b - b.b) ^ 2 := by
  simp only [colourDist, square, sq]

theorem colourDist_comm (a b : Vec3) : colourDist a b = colourDist b a := by
  rw [colourDist_eq_sum_sq, colourDist_eq_sum_sq]
  ring

theorem colourDist_nonneg (a b : Vec3) : 0 ≤ colourDist a b := by
  rw [colourDist_eq_sum_sq]
  positivity

@[simp] theorem colourDist_self (a : Vec3) : colourDist a a = 0 := by
  simp [colourDist_eq_sum_sq]

/-- A sum of three squares is 0 only if each of them is. -/
theorem colourDist_eq_zero_iff {a b : Vec3} : colourDist a b = 0 ↔ a = b := by
  constructor
  · intro h
    rw [colourDist_eq_sum_sq] at h
    have hr := sq_nonneg (a.r - b.r)
    have hg := sq_nonneg (a.g - b.g)
    have hb := sq_nonneg (a.b - b.b)
    have hr0 : a.r - b.r = 0 := sq_eq_zero_iff.1 (by omega)
    have hg0 : a.g - b.g = 0 := sq_eq_zero_iff.1 (by omega)
    have hb0 : a.b - b.b = 0 := sq_eq_zero_iff.1 (by omega)
    cases a
    cases b
    simp only [Vec3.mk.injEq]
    exact ⟨sub_eq_zero.1 hr0, sub_eq_zero.1 hg0, sub_eq_zero.1 hb0⟩
  · rintro rfl
    exact colourDist_self a

/-- Settles O18: the four facts about the distance, each a fact about squares. -/
theorem distanceIsSquaredEuclidean : Obligations.DistanceIsSquaredEuclidean :=
  fun a b => ⟨colourDist_eq_sum_sq a b, colourDist_comm a b, colourDist_nonneg a b, colourDist_eq_zero_iff⟩

/-! ### The nearest entry -/

/-- What the search for the entry nearest to `c` holds once it has looked at the first `n` entries: the least index of
minimal distance among these, with that distance (41_color_mapper.md R132). -/
structure State.BestBelow (c : Vec3) (s : State) (n : Nat) (best : Nat × Int) : Prop where
  lt : best.1 < n
  dist : best.2 = colourDist c (s.palVec best.1)
  le : ∀ j, j < n → best.2 ≤ colourDist c (s.palVec j)
  first : ∀ j, j < best.1 → best.2 < colourDist c (s.palVec j)

/-- One comparison extends the search by one entry: a strictly closer entry is closer than all before it, and any other
leaves the earlier index in place. -/
theorem State.BestBelow.closer {c : Vec3} {s : State} {n : Nat} {best : Nat × Int} (h : s.BestBelow c n best) :
    s.BestBelow c (n + 1) (s.closer c best n) := by
  unfold State.closer
  dsimp only
  split
  · next hcloser =>
    have hall : ∀ j, j < n → colourDist c (s.palVec n) < colourDist c (s.palVec j) :=
      fun j hj => hcloser.trans_le (h.le j hj)
    refine ⟨Nat.lt_succ_self n, rfl, fun j hj => ?_, hall⟩
    obtain hj | rfl := Nat.lt_succ_iff_lt_or_eq.1 hj
    · exact (hall j hj).le
    · exact le_rfl
  · next hcloser =>
    refine ⟨h.lt.trans (Nat.lt_succ_self n), h.dist, fun j hj => ?_, h.first⟩
    obtain hj | rfl := Nat.lt_succ_iff_lt_or_eq.1 hj
    · exact h.le j hj
    · exact not_lt.1 hcloser

theorem State.bestBelow_foldl_closer (c : Vec3) (s : State) (m : Nat) :
    s.BestBelow c (m + 1) ((List.range' 1 m).foldl (s.closer c) (0, colourDist c (s.palVec 0))) := by
  induction m with
  | zero =>
    refine ⟨Nat.zero_lt_one, rfl, fun j hj => ?_, fun j hj => absurd hj (Nat.not_lt_zero j)⟩
    obtain rfl : j = 0 := Nat.lt_one_iff.1 hj
    exact le_rfl
  | succ m ih =>
    rw [List.range'_1_concat, List.foldl_append, Nat.add_comm 1 m]
    exact ih.closer

/-- Settles O19: the search looks at K - 1 entries after the first one. -/
theorem nearestIsLeastIndexOfMinimalDistance : Obligations.NearestIsLeastIndexOfMinimalDistance := by
  intro s c hK
  have h := s.bestBelow_foldl_closer c (s.palK - 1)
  rw [Nat.sub_add_cancel hK] at h
  exact ⟨h.lt, fun j hj => h.dist.ge.trans (h.le j hj), fun j hj => h.dist.ge.trans_lt (h.first j hj)⟩

/-! ### The nearest entry of a palette colour -/

/-- The three channels are the whole colour. -/
theorem vecOf_injective : Function.Injective vecOf := by
  intro p q h
  unfold vecOf at h
  obtain ⟨hr, hg, hb⟩ := Vec3.mk.inj h
  rw [← colourOf_channels p, ← colourOf_channels q, BitVec.eq_of_toNat_eq (Int.ofNat.inj hr),
    BitVec.eq_of_toNat_eq (Int.ofNat.inj hg), BitVec.eq_of_toNat_eq (Int.ofNat.inj hb)]

/-- The nearest entry of a colour of the palette is that colour: its own entry is at distance 0, and no other colour is
(41_color_mapper.md R137). -/
theorem State.palEntry_nearest_of_palEntry {s : State} {j : Nat} (hj : j < s.palK) :
    s.palEntry (s.nearest (vecOf (s.palEntry j))) = s.palEntry j := by
  obtain ⟨-, hle, -⟩ := nearestIsLeastIndexOfMinimalDistance s (vecOf (s.palEntry j)) (Nat.one_le_of_lt hj)
  have hzero : colourDist (vecOf (s.palEntry j)) (s.palVec (s.nearest (vecOf (s.palEntry j)))) = 0 :=
    le_antisymm ((hle j hj).trans_eq (colourDist_self _)) (colourDist_nonneg _ _)
  exact (vecOf_injective (colourDist_eq_zero_iff.1 hzero)).symm

end Sys2Proof.Machine
end

section
/-! QNEAR pixel by pixel, in any order of work (41_color_mapper.md R134, R135, R138; 60_exceptions.md R208). -/

namespace Sys2Proof.Machine

/-! ### One iteration -/

/-- What QNEAR makes of pixel `k`: the colour of its nearest entry, with its own alpha (41_color_mapper.md R134). -/
def State.mappedPixel (s : State) (k : Nat) : Word :=
  emit (s.palEntry (s.nearest (s.pixelVec k))) (s.pixel k)

theorem State.pixel_qnearPixel (s : State) (i k : Nat) :
    (s.qnearPixel i).pixel k = if k = i ∧ i < s.maxPix then s.mappedPixel k else s.pixel k := by
  rw [State.qnearPixel, State.pixel_recolour]
  split
  · next h => rw [h.1, State.mappedPixel]
  · rfl

theorem State.palK_qnearPixel (s : State) (i : Nat) : (s.qnearPixel i).palK = s.palK :=
  State.recolour_palK _ i s

theorem State.maxPix_qnearPixel (s : State) (i : Nat) : (s.qnearPixel i).maxPix = s.maxPix :=
  State.recolour_maxPix _ i s

theorem State.byteAt_qnearPixel_low (s : State) (i : Nat) {a : Nat} (ha : a < frameBase) :
    (s.qnearPixel i).byteAt a = s.byteAt a := s.byteAt_recolour_low _ i ha

/-- The mapped pixel is a function of the pixel and the palette, and the palette lies below FRAME. -/
theorem State.mappedPixel_of_low {s t : State} (hK : t.palK = s.palK)
    (hlow : ∀ a, a < frameBase → t.byteAt a = s.byteAt a) {k : Nat} (hk : t.pixel k = s.pixel k) :
    t.mappedPixel k = s.mappedPixel k := by
  have hvec : t.pixelVec k = s.pixelVec k := by rw [State.pixelVec, State.pixelVec, hk]
  have hbelow : s.nearest (s.pixelVec k) < 4194048 := by
    have := s.nearest_lt_512 (s.pixelVec k)
    omega
  rw [State.mappedPixel, State.mappedPixel, hvec, hk, State.nearest_of_low hK hlow,
    State.palEntry_of_low hlow hbelow]

/-! ### Any list of pixels -/

/-- Each iteration reads its own pixel and the palette, so a list that names no pixel twice maps exactly its pixels. -/
theorem State.pixel_foldl_qnearPixel {l : List Nat} (hl : l.Nodup) (s : State) (k : Nat) :
    (l.foldl State.qnearPixel s).pixel k = if k ∈ l ∧ k < s.maxPix then s.mappedPixel k else s.pixel k := by
  induction l generalizing s with
  | nil => simp
  | cons i rest ih =>
    obtain ⟨hi, hrest⟩ := List.nodup_cons.1 hl
    have hstep := s.pixel_qnearPixel i k
    rw [List.foldl_cons, ih hrest]
    by_cases hki : k = i
    · subst hki
      simpa [hi] using hstep
    · have hkeep : (s.qnearPixel i).pixel k = s.pixel k := hstep.trans (if_neg fun h => hki h.1)
      have hmap : (s.qnearPixel i).mappedPixel k = s.mappedPixel k :=
        State.mappedPixel_of_low (s.palK_qnearPixel i) (fun _ ha => s.byteAt_qnearPixel_low i ha) hkeep
      simp [hkeep, hmap, State.maxPix_qnearPixel, hki]

theorem State.byteAt_foldl_qnearPixel_low (l : List Nat) (s : State) {a : Nat} (ha : a < frameBase) :
    (l.foldl State.qnearPixel s).byteAt a = s.byteAt a :=
  foldl_keeps State.qnearPixel (fun t => t.byteAt a = s.byteAt a) l
    (fun t i _ ht => (t.byteAt_qnearPixel_low i ha).trans ht) rfl

/-- Settles O22: both orders map the same pixels, and neither reaches a byte below FRAME. -/
theorem qnearOrderIsFree : Obligations.QnearOrderIsFree := by
  intro s l hl a
  refine State.byteAt_eq_of_pixel_eq (fun b hb => ?_) (fun k => ?_) a
  · rw [State.byteAt_foldl_qnearPixel_low l s hb]
    exact (State.byteAt_foldl_qnearPixel_low _ s hb).symm
  · rw [State.pixel_foldl_qnearPixel (hl.nodup_iff.2 List.nodup_range), State.qnear,
      State.pixel_foldl_qnearPixel List.nodup_range]
    simp only [hl.mem_iff]

/-! ### The whole bitmap -/

theorem State.pixel_qnear {s : State} (hv : s.validate = .none) {k : Nat} (hk : k < s.imgW * s.imgH) :
    s.qnear.pixel k = s.mappedPixel k := by
  obtain ⟨-, -, -, -, -, hfits⟩ := State.validate_none hv
  rw [State.qnear, State.pixel_foldl_qnearPixel List.nodup_range,
    if_pos ⟨List.mem_range.2 hk, hk.trans_le hfits⟩]

/-- Settles O13: the pixels by the loop's effect on each, the frame by what QNEAR can change. -/
theorem qnearResult : Obligations.QnearResult := by
  intro s hdue hv
  refine ⟨_, exec_completion hdue, ?_, fun k hk => ?_, (State.ChangesOnlyBitmap.qnear s).outside⟩
  · change s.qnear.complete = _
    rw [s.qnear_memOnly]
    rfl
  · have hpixel : (processing .qnear s).complete.pixel k = s.mappedPixel k := State.pixel_qnear hv hk
    rw [hpixel]
    exact ⟨rfl, rgbOf_emit _ _, alphaOf_emit _ _⟩

end Sys2Proof.Machine
end

section
/-! What the two mapping commands have in common: they leave only colours of the palette, and change no byte of a bitmap
that holds no other (41_color_mapper.md R136, R137; 42_ditherer.md R162). -/

namespace Sys2Proof.Machine

/-! ### Colours of the palette -/

/-- The colour of pixel `k` is an entry in use of the palette (41_color_mapper.md R136). -/
def State.inPalette (s : State) (k : Nat) : Prop := ∃ j, j < s.palK ∧ rgbOf (s.pixel k) = s.palEntry j

theorem State.inPalette.palK_pos {s : State} {k : Nat} (h : s.inPalette k) : 0 < s.palK := by
  obtain ⟨j, hj, -⟩ := h
  exact Nat.zero_lt_of_lt hj

/-- The nearest entry of a pixel whose colour is in the palette is its own colour (41_color_mapper.md R137). -/
theorem State.inPalette.palEntry_nearest {s : State} {k : Nat} (h : s.inPalette k) :
    s.palEntry (s.nearest (s.pixelVec k)) = rgbOf (s.pixel k) := by
  obtain ⟨j, hj, hcolour⟩ := h
  rw [State.pixelVec, hcolour]
  exact State.palEntry_nearest_of_palEntry hj

theorem State.inPalette_congr {s t : State} (hK : t.palK = s.palK) (h : ∀ a, t.byteAt a = s.byteAt a) {k : Nat} :
    t.inPalette k ↔ s.inPalette k := by
  simp only [State.inPalette, hK, State.pixel_congr h, State.palEntry_congr h]

theorem State.lt_of_lt_palK {s : State} {j : Nat} (hj : j < s.palK) : j < 4194048 := by
  have hK := s.palK_lt
  omega

/-- The accumulators are no part of the bitmap or the palette. -/
theorem State.inPalette_withErr (s : State) (d : List Vec3) (k : Nat) :
    { s with ditherErr := d }.inPalette k ↔ s.inPalette k := Iff.rfl

theorem State.palEntry_recolour_of_lt_palK (s : State) (q : Colour) (i : Nat) {j : Nat} (hj : j < s.palK) :
    (s.recolour q i).palEntry j = s.palEntry j :=
  s.palEntry_recolour q i (State.lt_of_lt_palK hj)

/-- A pixel recoloured with an entry in use has a colour of the palette. -/
theorem State.inPalette_recolour_self {s : State} {i j : Nat} (hi : i < s.maxPix) (hj : j < s.palK) :
    (s.recolour (s.palEntry j) i).inPalette i := by
  refine ⟨j, hj, ?_⟩
  rw [State.pixel_recolour_self s hi, rgbOf_emit, State.palEntry_recolour_of_lt_palK s _ i hj]

/-- Recolouring with entries in use keeps what is in the palette there. -/
theorem State.inPalette.recolour {s : State} {i j k : Nat} (h : s.inPalette k) (hj : j < s.palK) :
    (s.recolour (s.palEntry j) i).inPalette k := by
  by_cases hset : k = i ∧ i < s.maxPix
  · obtain ⟨rfl, hi⟩ := hset
    exact State.inPalette_recolour_self hi hj
  · obtain ⟨m, hm, hcolour⟩ := h
    refine ⟨m, hm, ?_⟩
    rw [State.pixel_recolour, if_neg hset, State.palEntry_recolour_of_lt_palK s _ i hm, hcolour]

/-! ### The raster loop of QDITH -/

/-- The pixels in raster order (42_ditherer.md R153). -/
def State.rasterList (s : State) : List (Nat × Nat) :=
  (List.range s.imgH).flatMap fun y => (List.range s.imgW).map fun x => (x, y)

theorem State.mem_rasterList {s : State} {b : Nat × Nat} : b ∈ s.rasterList ↔ b.1 < s.imgW ∧ b.2 < s.imgH := by
  obtain ⟨x, y⟩ := b
  simp [State.rasterList, and_comm]

/-- The two nested loops are one loop over the pixels. -/
theorem State.qdith_eq_foldl (s : State) :
    s.qdith = s.rasterList.foldl (fun t b => t.qdithPixel b.1 b.2) s.zeroErr := by
  unfold State.qdith State.rasterList
  rw [List.foldl_flatMap]
  simp only [List.foldl_map]

theorem State.exists_pixelIndex {s : State} {k : Nat} (hk : k < s.imgW * s.imgH) :
    ∃ b ∈ s.rasterList, s.pixelIndex b.1 b.2 = k := by
  have hW : 0 < s.imgW := Nat.pos_of_mul_pos_right (Nat.zero_lt_of_lt hk)
  exact ⟨(k % s.imgW, k / s.imgW), State.mem_rasterList.2 ⟨Nat.mod_lt k hW, Nat.div_lt_of_lt_mul hk⟩,
    Nat.div_add_mod' k s.imgW⟩

/-- Each visit of QDITH recolours its pixel with an entry in use and then touches the accumulators alone. -/
theorem State.inPalette_qdithPixel_iff {s : State} {x y k : Nat} :
    (s.qdithPixel x y).inPalette k ↔
      (s.recolour (s.palEntry (s.nearest (s.effective x y))) (s.pixelIndex x y)).inPalette k := by
  rw [State.qdithPixel, State.diffuse_errOnly]
  exact State.inPalette_withErr _ _ k

theorem State.inPalette.qdithPixel {s : State} {k : Nat} (h : s.inPalette k) (x y : Nat) :
    (s.qdithPixel x y).inPalette k :=
  State.inPalette_qdithPixel_iff.2 (h.recolour (s.nearest_lt h.palK_pos _))

theorem State.inPalette_qdithPixel_self {s : State} (hK : 0 < s.palK) {x y : Nat} (hi : s.pixelIndex x y < s.maxPix) :
    (s.qdithPixel x y).inPalette (s.pixelIndex x y) :=
  State.inPalette_qdithPixel_iff.2 (State.inPalette_recolour_self hi (s.nearest_lt hK _))

/-- Any visits change the memory and the accumulators alone. -/
theorem State.foldl_qdithPixel_frame (l : List (Nat × Nat)) (s : State) :
    ∃ m d, l.foldl (fun t b => t.qdithPixel b.1 b.2) s = { s with mem := m, ditherErr := d } :=
  ⟨_, _, foldl_memErrOnly _ (fun t (b : Nat × Nat) => t.qdithPixel_frame b.1 b.2) l s⟩

/-- The visit of a pixel puts its colour into the palette, and the visits after it keep it there. -/
theorem State.inPalette_qdith {s : State} (hv : s.validate = .none) {k : Nat} (hk : k < s.imgW * s.imgH) :
    s.qdith.inPalette k := by
  obtain ⟨-, hK, -, -, -, hfits⟩ := State.validate_none hv
  obtain ⟨b, hb, rfl⟩ := State.exists_pixelIndex hk
  obtain ⟨before, after, hsplit⟩ := List.append_of_mem hb
  obtain ⟨m, d, hbefore⟩ := State.foldl_qdithPixel_frame before s.zeroErr
  have hvisit : ({ s with mem := m, ditherErr := d }.qdithPixel b.1 b.2).inPalette (s.pixelIndex b.1 b.2) :=
    State.inPalette_qdithPixel_self (s := { s with mem := m, ditherErr := d }) (Nat.zero_lt_of_lt hK)
      (hk.trans_le hfits)
  rw [State.qdith_eq_foldl, hsplit, List.foldl_append, List.foldl_cons, hbefore]
  exact foldl_keeps _ (fun t => t.inPalette (s.pixelIndex b.1 b.2)) after
    (fun t (b' : Nat × Nat) _ ht => ht.qdithPixel b'.1 b'.2) hvisit

theorem State.inPalette_qnear {s : State} (hv : s.validate = .none) {k : Nat} (hk : k < s.imgW * s.imgH) :
    s.qnear.inPalette k := by
  obtain ⟨-, hK, -⟩ := State.validate_none hv
  have hj : s.nearest (s.pixelVec k) < s.palK := s.nearest_lt (Nat.zero_lt_of_lt hK) _
  have hentry : s.qnear.palEntry (s.nearest (s.pixelVec k)) = s.palEntry (s.nearest (s.pixelVec k)) :=
    State.palEntry_of_low (fun _ ha => State.byteAt_foldl_qnearPixel_low _ s ha) (State.lt_of_lt_palK hj)
  refine ⟨s.nearest (s.pixelVec k), ?_, ?_⟩
  · rw [s.qnear_memOnly]
    exact hj
  · rw [State.pixel_qnear hv hk, State.mappedPixel, rgbOf_emit, hentry]

/-- Both mapping commands leave no colour in the bitmap but entries in use (41_color_mapper.md R136). -/
theorem processing_inPalette {i : Instr} (hi : i = .qnear ∨ i = .qdith) {s : State} (hv : s.validate = .none)
    {k : Nat} (hk : k < s.imgW * s.imgH) : (processing i s).inPalette k := by
  obtain rfl | rfl := hi
  · exact State.inPalette_qnear hv hk
  · exact State.inPalette_qdith hv hk

/-- Settles O20: the completion adds PEND and DONE to the processing. -/
theorem mappedColoursAreInThePalette : Obligations.MappedColoursAreInThePalette :=
  fun _ _ hi hdue hv => ⟨_, exec_completion hdue, fun _ hk => processing_inPalette hi hv hk⟩

/-! ### A bitmap of palette colours -/

/-- `t` is `s` with its memory listed in another way: the same byte at every offset. -/
structure State.SameBytes (s t : State) : Prop where
  memOnly : t = { s with mem := t.mem }
  byteAt : ∀ a, t.byteAt a = s.byteAt a

theorem State.byteAt_recolour_own (s : State) (i a : Nat) :
    (s.recolour (rgbOf (s.pixel i)) i).byteAt a = s.byteAt a := by
  refine State.byteAt_eq_of_pixel_eq (fun _ hb => s.byteAt_recolour_low _ i hb) (fun k => ?_) a
  rw [State.pixel_recolour]
  split
  · next h => rw [h.1, emit_rgbOf]
  · rfl

namespace State.SameBytes

variable {s t : State}

theorem refl (s : State) : s.SameBytes s := ⟨rfl, fun _ => rfl⟩

theorem inPalette_iff (h : s.SameBytes t) {k : Nat} : t.inPalette k ↔ s.inPalette k :=
  State.inPalette_congr (by rw [h.memOnly]; rfl) h.byteAt

theorem pixelIndex (h : s.SameBytes t) (x y : Nat) : t.pixelIndex x y = s.pixelIndex x y := by
  rw [h.memOnly]
  rfl

theorem errAt (h : s.SameBytes t) (x y : Nat) : t.errAt x y = s.errAt x y := by
  rw [h.memOnly]
  rfl

/-- Giving a pixel the colour it has changes no byte. -/
theorem recolour_own (h : s.SameBytes t) (i : Nat) : s.SameBytes (t.recolour (rgbOf (t.pixel i)) i) where
  memOnly := by
    rw [State.recolour_memOnly]
    generalize (t.recolour (rgbOf (t.pixel i)) i).mem = m
    rw [h.memOnly]
  byteAt a := (t.byteAt_recolour_own i a).trans (h.byteAt a)

end State.SameBytes

/-- QNEAR gives every pixel of such a bitmap the colour it has. -/
theorem State.qnear_sameBytes {s : State} (h : ∀ k, k < s.imgW * s.imgH → s.inPalette k) : s.SameBytes s.qnear := by
  refine foldl_keeps _ s.SameBytes _ (fun t i hi ht => ?_) (.refl s)
  have hin : t.inPalette i := ht.inPalette_iff.2 (h i (List.mem_range.1 hi))
  rw [State.qnearPixel, hin.palEntry_nearest]
  exact ht.recolour_own i

@[simp] theorem Vec3.add_zero (v : Vec3) : v.add Vec3.zero = v := by
  simp [Vec3.add, Vec3.zero]

@[simp] theorem Vec3.sub_self (v : Vec3) : v.sub v = Vec3.zero := by
  simp [Vec3.sub, Vec3.zero]

@[simp] theorem Vec3.smul_zero (w : Int) : Vec3.zero.smul w = Vec3.zero := by
  simp [Vec3.smul, Vec3.zero]

@[simp] theorem Vec3.round16_zero : Vec3.zero.round16 = Vec3.zero := by decide

/-- A share of 0 leaves its accumulator as it is, inside the image or not. -/
theorem State.addErr_zero (inside : Bool) (x y : Nat) (w : Int) (s : State) :
    s.addErr inside x y w Vec3.zero = s := by
  have hadd : (fun e : Vec3 => e.add (Vec3.zero.smul w)) = id := by
    funext e
    rw [Vec3.smul_zero, Vec3.add_zero, id]
  rw [State.addErr, hadd, List.modify_id, ite_self]

theorem State.diffuse_zero (x y : Nat) (s : State) : s.diffuse x y Vec3.zero = s := by
  simp only [State.diffuse, State.addErr_zero]

theorem State.errAt_zeroErr (s : State) (x y : Nat) : s.zeroErr.errAt x y = Vec3.zero := by
  rw [State.errAt, State.zeroErr_ditherErr, List.getD_eq_getElem?_getD, List.getElem?_replicate]
  split <;> rfl

/-- With no error arrived, a pixel whose colour is in the palette keeps it and passes no error on
(42_ditherer.md R162). -/
theorem State.qdithPixel_of_inPalette {s : State} {x y : Nat} (herr : s.errAt x y = Vec3.zero)
    (h : s.inPalette (s.pixelIndex x y)) :
    s.qdithPixel x y = s.recolour (rgbOf (s.pixel (s.pixelIndex x y))) (s.pixelIndex x y) := by
  have heff : s.effective x y = s.pixelVec (s.pixelIndex x y) := by
    rw [State.effective, herr, Vec3.round16_zero, Vec3.add_zero]
  unfold State.qdithPixel
  dsimp only
  rw [heff, h.palEntry_nearest, State.pixelVec, Vec3.sub_self, State.diffuse_zero]

/-- QDITH gives every pixel of such a bitmap the colour it has too, and no error ever arises (42_ditherer.md R162). -/
theorem State.qdith_sameBytes {s : State} (h : ∀ k, k < s.imgW * s.imgH → s.inPalette k) :
    s.zeroErr.SameBytes s.qdith := by
  rw [State.qdith_eq_foldl]
  refine foldl_keeps _ s.zeroErr.SameBytes _ (fun t b hb ht => ?_) (.refl s.zeroErr)
  obtain ⟨hx, hy⟩ := State.mem_rasterList.1 hb
  have herr : t.errAt b.1 b.2 = Vec3.zero := (ht.errAt b.1 b.2).trans (s.errAt_zeroErr b.1 b.2)
  have hin : t.inPalette (t.pixelIndex b.1 b.2) := by
    rw [ht.pixelIndex]
    exact ht.inPalette_iff.2 (h _ (s.pixelIndex_lt hx hy))
  rw [State.qdithPixel_of_inPalette herr hin]
  exact ht.recolour_own _

/-- Both mapping commands change no byte of a bitmap that holds no colour but entries in use. -/
theorem byteAt_processing_of_inPalette {j : Instr} (hj : j = .qnear ∨ j = .qdith) {s : State}
    (h : ∀ k, k < s.imgW * s.imgH → s.inPalette k) (a : Nat) : (processing j s).byteAt a = s.byteAt a := by
  obtain rfl | rfl := hj
  · exact (State.qnear_sameBytes h).byteAt a
  · exact (State.qdith_sameBytes h).byteAt a

theorem State.engineDue_congr {s t : State} (h : t.script = s.script) : t.engineDue = s.engineDue := by
  unfold State.engineDue
  rw [h]

/-- Settles O21: the first command leaves only palette colours, and the second changes no byte of such a bitmap. -/
theorem mappingAgainChangesNothing : Obligations.MappingAgainChangesNothing := by
  intro i j s hi hj hdue hv
  obtain ⟨hturn, -⟩ := State.completionDue_iff.1 hdue
  have hframe := processing_frame i s
  have hturn' : (processing i s).engineDue = true := by
    rw [State.engineDue_congr (s := s) (by rw [hframe]), hturn]
  have hin : ∀ k, k < (processing i s).imgW * (processing i s).imgH → (processing i s).inPalette k := by
    intro k hk
    rw [hframe] at hk
    exact processing_inPalette hi hv hk
  refine ⟨_, _, exec_completion hdue, exec_completion (State.completionDue_iff.2 ⟨hturn', rfl⟩), fun a => ?_⟩
  exact byteAt_processing_of_inPalette (s := { (processing i s).complete with pend := some j }) hj hin a

end Sys2Proof.Machine
end

section
/-! One visit of QDITH seen from any pixel: the residual of the visited pixel arrives with the weight of the kernel
(42_ditherer.md R158, R159). -/

namespace Sys2Proof.Machine

/-! ### Vectors -/

@[ext] theorem Vec3.ext {u v : Vec3} (hr : u.r = v.r) (hg : u.g = v.g) (hb : u.b = v.b) : u = v := by
  cases u
  cases v
  simp only [Vec3.mk.injEq]
  exact ⟨hr, hg, hb⟩

@[simp] theorem Vec3.zero_smul (v : Vec3) : v.smul 0 = Vec3.zero := by
  simp [Vec3.smul, Vec3.zero]

@[simp] theorem Vec3.zero_add (v : Vec3) : Vec3.zero.add v = v := by
  simp [Vec3.add, Vec3.zero]

theorem Vec3.add_smul_add_smul (u v : Vec3) (w w' : Int) :
    (u.add (v.smul w)).add (v.smul w') = u.add (v.smul (w + w')) := by
  ext <;> simp only [Vec3.add, Vec3.smul] <;> ring

/-! ### The shares of one residual -/

/-- The weight with which the residual of pixel (a, b) reaches pixel (x, y); 0 if it does not (42_ditherer.md R158). -/
def ditherWeight (a b x y : Nat) : Int :=
  (if a + 1 = x ∧ b = y then 7 else 0) + (if a = x + 1 ∧ b + 1 = y then 3 else 0) +
    (if a = x ∧ b + 1 = y then 5 else 0) + (if a + 1 = x ∧ b + 1 = y then 1 else 0)

/-- The accumulators of a `W` by `H` image, one for each pixel (42_ditherer.md R152). -/
structure State.ErrShape (W H : Nat) (s : State) : Prop where
  imgW : s.imgW = W
  imgH : s.imgH = H
  length : s.ditherErr.length = W * H

namespace State.ErrShape

variable {W H : Nat} {s : State}

theorem recolour (h : ErrShape W H s) (q : Colour) (i : Nat) : ErrShape W H (s.recolour q i) :=
  ⟨h.imgW, h.imgH, h.length⟩

theorem addErr (h : ErrShape W H s) (inside : Bool) (a b : Nat) (w : Int) (res : Vec3) :
    ErrShape W H (s.addErr inside a b w res) where
  imgW := h.imgW
  imgH := h.imgH
  length := by
    rw [State.addErr_ditherErr]
    split
    · rw [List.length_modify, h.length]
    · exact h.length

theorem diffuse (h : ErrShape W H s) (a b : Nat) (res : Vec3) : ErrShape W H (s.diffuse a b res) :=
  (((h.addErr _ _ _ _ _).addErr _ _ _ _ _).addErr _ _ _ _ _).addErr _ _ _ _ _

theorem qdithPixel (h : ErrShape W H s) (a b : Nat) : ErrShape W H (s.qdithPixel a b) :=
  (h.recolour _ _).diffuse a b _

theorem pixelIndex_lt (h : ErrShape W H s) {x y : Nat} (hx : x < W) (hy : y < H) :
    s.pixelIndex x y < s.ditherErr.length := by
  have hlt := s.pixelIndex_lt (h.imgW ▸ hx) (h.imgH ▸ hy)
  rwa [h.imgW, h.imgH, ← h.length] at hlt

theorem pixelIndex_ne (h : ErrShape W H s) {x y x' y' : Nat} (hx : x < W) (hx' : x' < W) (hne : ¬ (x = x' ∧ y = y')) :
    s.pixelIndex x y ≠ s.pixelIndex x' y' :=
  fun heq => hne (s.pixelIndex_inj (h.imgW ▸ hx) (h.imgW ▸ hx') heq)

/-- A share reaches the accumulator of its target and no other. -/
theorem errAt_addErr (h : ErrShape W H s) {inside : Bool} {a b : Nat} (ha : inside = true → a < W) (w : Int)
    (res : Vec3) {x y : Nat} (hx : x < W) (hy : y < H) :
    (s.addErr inside a b w res).errAt x y =
      (s.errAt x y).add (res.smul (if inside = true ∧ a = x ∧ b = y then w else 0)) := by
  have hlt := h.pixelIndex_lt hx hy
  change (s.addErr inside a b w res).ditherErr.getD (s.pixelIndex x y) Vec3.zero =
    (s.ditherErr.getD (s.pixelIndex x y) Vec3.zero).add _
  rw [State.addErr_ditherErr]
  cases inside with
  | false => simp
  | true =>
    by_cases hxy : a = x ∧ b = y
    · obtain ⟨rfl, rfl⟩ := hxy
      simp [List.getD_eq_getElem?_getD, hlt]
    · have hne := h.pixelIndex_ne (ha rfl) hx hxy
      simp [List.getD_eq_getElem?_getD, hlt, hne, hxy]

/-- The four shares together: a pixel of the image is the target of one of them at most. -/
theorem errAt_diffuse (h : ErrShape W H s) {a b : Nat} (ha : a < W) (res : Vec3) {x y : Nat} (hx : x < W)
    (hy : y < H) : (s.diffuse a b res).errAt x y = (s.errAt x y).add (res.smul (ditherWeight a b x y)) := by
  have h7 := h.addErr (decide (a + 1 < s.imgW)) (a + 1) b 7 res
  have h3 := h7.addErr (decide (1 ≤ a ∧ b + 1 < s.imgH)) (a - 1) (b + 1) 3 res
  have h5 := h3.addErr (decide (b + 1 < s.imgH)) a (b + 1) 5 res
  unfold State.diffuse
  rw [h5.errAt_addErr (by simp [h.imgW]; omega) _ _ hx hy, h3.errAt_addErr (fun _ => ha) _ _ hx hy,
    h7.errAt_addErr (fun _ => by omega) _ _ hx hy, h.errAt_addErr (by simp [h.imgW]) _ _ hx hy]
  have w7 : (a + 1 < W ∧ a + 1 = x ∧ b = y) ↔ (a + 1 = x ∧ b = y) := by omega
  have w3 : ((1 ≤ a ∧ b + 1 < H) ∧ a - 1 = x ∧ b + 1 = y) ↔ (a = x + 1 ∧ b + 1 = y) := by omega
  have w5 : (b + 1 < H ∧ a = x ∧ b + 1 = y) ↔ (a = x ∧ b + 1 = y) := by omega
  have w1 : ((a + 1 < W ∧ b + 1 < H) ∧ a + 1 = x ∧ b + 1 = y) ↔ (a + 1 = x ∧ b + 1 = y) := by omega
  simp only [Vec3.add_smul_add_smul, decide_eq_true_eq, h.imgW, h.imgH, w7, w3, w5, w1, ditherWeight]

end State.ErrShape

end Sys2Proof.Machine
end

section
/-! The error that arrives at a pixel, as a sum over any field of residuals (42_ditherer.md R158, R159). -/

namespace Sys2Proof.Machine

/-- What a pixel gathers in an image of width `W` if each pixel (a, b) has the residual `res a b`. -/
def ditherGather (W : Nat) (res : Nat → Nat → Vec3) (x y : Nat) : Vec3 :=
  ((((res (x - 1) y).smul (if 1 ≤ x then 7 else 0)).add
    ((res (x + 1) (y - 1)).smul (if x + 1 < W ∧ 1 ≤ y then 3 else 0))).add
    ((res x (y - 1)).smul (if 1 ≤ y then 5 else 0))).add
    ((res (x - 1) (y - 1)).smul (if 1 ≤ x ∧ 1 ≤ y then 1 else 0))

theorem ditherShare_eq_smul (s t : State) (p : Prop) [Decidable p] (w : Int) (x y : Nat) :
    ditherShare s t (decide p) w x y = (ditherResidual s t x y).smul (if p then w else 0) := by
  by_cases hp : p <;> simp [ditherShare, hp]

/-- The defining equation of the accumulators gathers the residuals of the image. -/
theorem ditherArrival_eq_gather (s t : State) (x y : Nat) :
    ditherArrival s t x y = ditherGather s.imgW (ditherResidual s t) x y := by
  simp only [ditherArrival, ditherShare_eq_smul, ditherGather]

/-- A pixel gathers from the image alone, and from no row below its own. -/
theorem ditherGather_congr {W : Nat} {f g : Nat → Nat → Vec3} {x y : Nat} (hx : x < W)
    (h : ∀ a b, a < W → b ≤ y → f a b = g a b) : ditherGather W f x y = ditherGather W g x y := by
  have h3 : (f (x + 1) (y - 1)).smul (if x + 1 < W ∧ 1 ≤ y then 3 else 0) =
      (g (x + 1) (y - 1)).smul (if x + 1 < W ∧ 1 ≤ y then 3 else 0) := by
    split
    · next hin => rw [h _ _ hin.1 (Nat.sub_le y 1)]
    · rw [Vec3.zero_smul, Vec3.zero_smul]
  rw [ditherGather, ditherGather, h3, h (x - 1) y (by omega) le_rfl, h x (y - 1) hx (Nat.sub_le y 1),
    h (x - 1) (y - 1) (by omega) (Nat.sub_le y 1)]

theorem ditherGather_zero (W x y : Nat) : ditherGather W (fun _ _ => Vec3.zero) x y = Vec3.zero := by
  simp only [ditherGather, Vec3.smul_zero, Vec3.add_zero]

theorem ditherGather_add (W : Nat) (f g : Nat → Nat → Vec3) (x y : Nat) :
    ditherGather W (fun a b => (f a b).add (g a b)) x y = (ditherGather W f x y).add (ditherGather W g x y) := by
  ext <;> simp only [ditherGather, Vec3.add, Vec3.smul] <;> ring

theorem Vec3.smul_ite_smul {p c q : Prop} [Decidable p] [Decidable c] [Decidable q] (h : c ∧ p ↔ q) (v : Vec3)
    (w : Int) : (if p then v else Vec3.zero).smul (if c then w else 0) = v.smul (if q then w else 0) := by
  by_cases hc : c <;> by_cases hp : p <;> simp [← h, hc, hp]

theorem Vec3.smul_add_smul (v : Vec3) (w w' : Int) : (v.smul w).add (v.smul w') = v.smul (w + w') := by
  ext <;> simp only [Vec3.add, Vec3.smul] <;> ring

/-- From one pixel of the image alone a pixel gathers what that pixel's residual scatters to it. -/
theorem ditherGather_single {W X Y : Nat} (hX : X < W) (v : Vec3) (x y : Nat) :
    ditherGather W (fun a b => if a = X ∧ b = Y then v else Vec3.zero) x y = v.smul (ditherWeight X Y x y) := by
  have w7 : 1 ≤ x ∧ x - 1 = X ∧ y = Y ↔ X + 1 = x ∧ Y = y := by omega
  have w3 : (x + 1 < W ∧ 1 ≤ y) ∧ x + 1 = X ∧ y - 1 = Y ↔ X = x + 1 ∧ Y + 1 = y := by omega
  have w5 : 1 ≤ y ∧ x = X ∧ y - 1 = Y ↔ X = x ∧ Y + 1 = y := by omega
  have w1 : (1 ≤ x ∧ 1 ≤ y) ∧ x - 1 = X ∧ y - 1 = Y ↔ X + 1 = x ∧ Y + 1 = y := by omega
  simp only [ditherGather, Vec3.smul_ite_smul w7, Vec3.smul_ite_smul w3, Vec3.smul_ite_smul w5,
    Vec3.smul_ite_smul w1, Vec3.smul_add_smul, ditherWeight]

end Sys2Proof.Machine
end

section
/-! The raster loop of QDITH. Between two visits the state is determined by what the visits so far have done: their
pixels are emitted, every accumulator holds what these pixels passed on, and nothing else has changed (42_ditherer.md
R153 to R160). A later visit never touches the accumulator of an earlier pixel, so the equations can be stated with the
state of the moment and read off at the end. -/

namespace Sys2Proof.Machine

/-- Pixel (a, b) of an image of width `W` comes before (X, Y) in raster order (42_ditherer.md R153). -/
abbrev ditherVisited (W X Y a b : Nat) : Prop := a < W ∧ (b < Y ∨ b = Y ∧ a < X)

/-- The residuals of the pixels before (X, Y), read from the accumulators of `t`; 0 at every other pixel. -/
def ditherPassed (X Y : Nat) (s t : State) (a b : Nat) : Vec3 :=
  if ditherVisited s.imgW X Y a b then ditherResidual s t a b else Vec3.zero

theorem State.palK_qdithPixel (s : State) (x y : Nat) : (s.qdithPixel x y).palK = s.palK := by
  simp only [State.qdithPixel, State.diffuse, State.addErr_palK, State.recolour_palK]

theorem State.maxPix_qdithPixel (s : State) (x y : Nat) : (s.qdithPixel x y).maxPix = s.maxPix := by
  simp only [State.qdithPixel, State.diffuse, State.addErr_maxPix, State.recolour_maxPix]

/-- The accumulators are no part of FRAME. -/
theorem State.pixel_diffuse (s : State) (x y : Nat) (res : Vec3) (k : Nat) : (s.diffuse x y res).pixel k = s.pixel k :=
  State.pixel_congr (State.byteAt_congr (by rw [State.diffuse_errOnly]) (by rw [State.diffuse_errOnly])
    (by rw [State.diffuse_errOnly])) k

/-- The visit of (X, Y) passes nothing to (a, b) itself or to a pixel before it. -/
theorem ditherWeight_of_visited {W X Y x y : Nat} (h : ditherVisited W (X + 1) Y x y) : ditherWeight X Y x y = 0 := by
  have w7 : ¬ (X + 1 = x ∧ Y = y) := by omega
  have w3 : ¬ (X = x + 1 ∧ Y + 1 = y) := by omega
  have w5 : ¬ (X = x ∧ Y + 1 = y) := by omega
  have w1 : ¬ (X + 1 = x ∧ Y + 1 = y) := by omega
  simp only [ditherWeight, if_neg w7, if_neg w3, if_neg w5, if_neg w1, Int.add_zero]

theorem ditherEffective_congr (s : State) {t u : State} {x y : Nat} (h : u.errAt x y = t.errAt x y) :
    ditherEffective s u x y = ditherEffective s t x y := by
  rw [ditherEffective, ditherEffective, h]

theorem ditherChosen_congr (s : State) {t u : State} {x y : Nat} (h : u.errAt x y = t.errAt x y) :
    ditherChosen s u x y = ditherChosen s t x y := by
  rw [ditherChosen, ditherChosen, ditherEffective_congr s h]

theorem ditherResidual_congr (s : State) {t u : State} {x y : Nat} (h : u.errAt x y = t.errAt x y) :
    ditherResidual s u x y = ditherResidual s t x y := by
  rw [ditherResidual, ditherResidual, ditherEffective_congr s h, ditherChosen_congr s h]

/-- A loop over 0 to n - 1 takes a property of position 0 to position n if each iteration takes it one position on. -/
theorem foldl_range_induction {f : State → Nat → State} {P : Nat → State → Prop} {n : Nat} {s : State} (h0 : P 0 s)
    (h : ∀ i t, i < n → P i t → P (i + 1) (f t i)) : P n ((List.range n).foldl f s) := by
  induction n with
  | zero => exact h0
  | succ n ih =>
    rw [List.range_succ, List.foldl_append]
    exact h n _ (Nat.lt_succ_self n) (ih fun i t hi => h i t (Nat.lt_succ_of_lt hi))

/-- `t` is what QDITH started on `s` has made of it when pixel (X, Y) is next. -/
structure State.DithersUpTo (s : State) (X Y : Nat) (t : State) : Prop extends s.ChangesOnlyBitmap t where
  palK : t.palK = s.palK
  maxPix : t.maxPix = s.maxPix
  length : t.ditherErr.length = s.imgW * s.imgH
  err : ∀ x y, x < s.imgW → y < s.imgH → t.errAt x y = ditherGather s.imgW (ditherPassed X Y s t) x y
  pixel : ∀ x y, x < s.imgW → y < s.imgH →
    t.px x y = if ditherVisited s.imgW X Y x y ∧ s.pixelIndex x y < s.maxPix
      then emit (ditherChosen s t x y) (s.px x y) else s.px x y

namespace State.DithersUpTo

variable {s t : State} {X Y : Nat}

/-- The same visits have been made before two positions that the same pixels come before. -/
theorem congr (h : s.DithersUpTo X Y t) {X' Y' : Nat}
    (hv : ∀ a b, ditherVisited s.imgW X Y a b ↔ ditherVisited s.imgW X' Y' a b) : s.DithersUpTo X' Y' t where
  toChangesOnlyBitmap := h.toChangesOnlyBitmap
  palK := h.palK
  maxPix := h.maxPix
  length := h.length
  err x y hx hy := by
    have hp : ditherPassed X Y s t = ditherPassed X' Y' s t := by
      funext a b
      simp only [ditherPassed, hv a b]
    rw [h.err x y hx hy, hp]
  pixel x y hx hy := by simp only [h.pixel x y hx hy, hv x y]

/-- The end of a row is the start of the next one. -/
theorem nextRow (h : s.DithersUpTo s.imgW Y t) : s.DithersUpTo 0 (Y + 1) t :=
  h.congr fun a b => by simp only [ditherVisited]; omega

theorem start (s : State) : s.DithersUpTo 0 0 s.zeroErr where
  imgW := rfl
  imgH := rfl
  outside _ _ := rfl
  palK := rfl
  maxPix := rfl
  length := List.length_replicate
  err x y _ _ := by
    have hp : ditherPassed 0 0 s s.zeroErr = fun _ _ => Vec3.zero := by
      funext a b
      exact if_neg (by omega)
    rw [s.errAt_zeroErr, hp, ditherGather_zero]
  pixel x y _ _ := (if_neg (by omega)).symm

/-! ### One visit -/

theorem errShape (h : s.DithersUpTo X Y t) : State.ErrShape s.imgW s.imgH t := ⟨h.imgW, h.imgH, h.length⟩

theorem pixelIndex (h : s.DithersUpTo X Y t) (x y : Nat) : t.pixelIndex x y = s.pixelIndex x y := by
  rw [State.pixelIndex, State.pixelIndex, h.imgW]

/-- The palette lies outside every bitmap. -/
theorem byteAt_low (h : s.DithersUpTo X Y t) {a : Nat} (ha : a < frameBase) : t.byteAt a = s.byteAt a :=
  h.outside a fun hin => absurd ha (Nat.not_lt.2 hin.1)

theorem palEntry_nearest (h : s.DithersUpTo X Y t) (c : Vec3) :
    t.palEntry (t.nearest c) = s.palEntry (s.nearest c) := by
  rw [State.nearest_of_low h.palK (fun _ ha => h.byteAt_low ha), State.palEntry_of_low (fun _ ha => h.byteAt_low ha)]
  have := s.nearest_lt_512 c
  omega

/-- A pixel not visited yet is seen with its true colour. -/
theorem effective (h : s.DithersUpTo X Y t) (hX : X < s.imgW) (hY : Y < s.imgH) :
    t.effective X Y = ditherEffective s t X Y := by
  have hpx : t.px X Y = s.px X Y := (h.pixel X Y hX hY).trans (if_neg (by omega))
  rw [State.px, State.px, h.pixelIndex] at hpx
  rw [State.effective, ditherEffective, h.pixelIndex, State.pixelVec, State.pixelVec, hpx]

theorem qdithPixel_eq (h : s.DithersUpTo X Y t) (hX : X < s.imgW) (hY : Y < s.imgH) :
    t.qdithPixel X Y =
      (t.recolour (ditherChosen s t X Y) (s.pixelIndex X Y)).diffuse X Y (ditherResidual s t X Y) := by
  rw [State.qdithPixel, h.effective hX hY, h.palEntry_nearest, h.pixelIndex]
  rfl

/-- The visit passes the residual of its pixel on. -/
theorem errAt_qdithPixel (h : s.DithersUpTo X Y t) (hX : X < s.imgW) (hY : Y < s.imgH) {x y : Nat} (hx : x < s.imgW)
    (hy : y < s.imgH) : (t.qdithPixel X Y).errAt x y =
      (t.errAt x y).add ((ditherResidual s t X Y).smul (ditherWeight X Y x y)) := by
  rw [h.qdithPixel_eq hX hY]
  exact (h.errShape.recolour _ _).errAt_diffuse hX _ hx hy

theorem errAt_qdithPixel_of_visited (h : s.DithersUpTo X Y t) (hX : X < s.imgW) (hY : Y < s.imgH) {x y : Nat}
    (hv : ditherVisited s.imgW (X + 1) Y x y) : (t.qdithPixel X Y).errAt x y = t.errAt x y := by
  rw [h.errAt_qdithPixel hX hY hv.1 (by omega), ditherWeight_of_visited hv, Vec3.zero_smul, Vec3.add_zero]

/-- The visit adds its own residual to those passed on. -/
theorem ditherPassed_qdithPixel (h : s.DithersUpTo X Y t) (hX : X < s.imgW) (hY : Y < s.imgH) :
    ditherPassed (X + 1) Y s (t.qdithPixel X Y) =
      fun a b => (ditherPassed X Y s t a b).add (if a = X ∧ b = Y then ditherResidual s t X Y else Vec3.zero) := by
  funext a b
  unfold ditherPassed
  by_cases hv : ditherVisited s.imgW (X + 1) Y a b
  · rw [if_pos hv, ditherResidual_congr s (h.errAt_qdithPixel_of_visited hX hY hv)]
    by_cases hab : a = X ∧ b = Y
    · obtain ⟨rfl, rfl⟩ := hab
      rw [if_neg (by omega), if_pos ⟨rfl, rfl⟩, Vec3.zero_add]
    · rw [if_pos (by omega), if_neg hab, Vec3.add_zero]
  · rw [if_neg hv, if_neg (by omega), if_neg (by omega), Vec3.add_zero]

theorem px_qdithPixel (h : s.DithersUpTo X Y t) (hX : X < s.imgW) (hY : Y < s.imgH) (x y : Nat) :
    (t.qdithPixel X Y).px x y =
      if s.pixelIndex x y = s.pixelIndex X Y ∧ s.pixelIndex X Y < s.maxPix then emit (ditherChosen s t X Y) (t.px x y)
      else t.px x y := by
  have hindex : (t.qdithPixel X Y).pixelIndex x y = s.pixelIndex x y := by
    rw [State.pixelIndex, (h.toChangesOnlyBitmap.qdithPixel hX hY).imgW, State.pixelIndex]
  rw [State.px, hindex, h.qdithPixel_eq hX hY, State.pixel_diffuse, State.pixel_recolour, h.maxPix, State.px,
    h.pixelIndex]

theorem visit (h : s.DithersUpTo X Y t) (hX : X < s.imgW) (hY : Y < s.imgH) :
    s.DithersUpTo (X + 1) Y (t.qdithPixel X Y) where
  toChangesOnlyBitmap := h.toChangesOnlyBitmap.qdithPixel hX hY
  palK := (t.palK_qdithPixel X Y).trans h.palK
  maxPix := (t.maxPix_qdithPixel X Y).trans h.maxPix
  length := (h.errShape.qdithPixel X Y).length
  err x y hx hy := by
    rw [h.errAt_qdithPixel hX hY hx hy, h.err x y hx hy, h.ditherPassed_qdithPixel hX hY, ditherGather_add,
      ditherGather_single hX]
  pixel x y hx hy := by
    rw [h.px_qdithPixel hX hY, h.pixel x y hx hy]
    by_cases hxy : x = X ∧ y = Y
    · obtain ⟨rfl, rfl⟩ := hxy
      have hv : ditherVisited s.imgW (x + 1) y x y := by omega
      rw [ditherChosen_congr s (h.errAt_qdithPixel_of_visited hX hY hv),
        if_neg (c := ditherVisited s.imgW x y x y ∧ _) (by omega)]
      simp only [true_and, and_iff_right hv]
    · have hne : s.pixelIndex x y ≠ s.pixelIndex X Y := fun heq => hxy (s.pixelIndex_inj hx hX heq)
      rw [if_neg fun hc => hne hc.1]
      by_cases hv : ditherVisited s.imgW X Y x y
      · have hv' : ditherVisited s.imgW (X + 1) Y x y := by omega
        rw [ditherChosen_congr s (h.errAt_qdithPixel_of_visited hX hY hv')]
        simp only [and_iff_right hv, and_iff_right hv']
      · rw [if_neg fun hc => hv hc.1, if_neg (by omega)]

/-! ### The whole loop -/

theorem row (h : s.DithersUpTo 0 Y t) (hY : Y < s.imgH) :
    s.DithersUpTo 0 (Y + 1) ((List.range s.imgW).foldl (fun u x => u.qdithPixel x Y) t) :=
  nextRow (foldl_range_induction (P := fun X u => s.DithersUpTo X Y u) h fun _ _ hX hu => hu.visit hX hY)

theorem qdith (s : State) : s.DithersUpTo 0 s.imgH s.qdith :=
  foldl_range_induction (P := fun Y u => s.DithersUpTo 0 Y u) (start s) fun _ _ hY ht => ht.row hY

end State.DithersUpTo

/-- QDITH leaves in each accumulator what the defining equation gathers (42_ditherer.md R158, R159). -/
theorem State.errAt_qdith (s : State) {x y : Nat} (hx : x < s.imgW) (hy : y < s.imgH) :
    s.qdith.errAt x y = ditherArrival s s.qdith x y := by
  rw [(State.DithersUpTo.qdith s).err x y hx hy, ditherArrival_eq_gather]
  exact ditherGather_congr hx fun a b ha hb => if_pos ⟨ha, .inl (hb.trans_lt hy)⟩

/-- QDITH gives each pixel its chosen colour, with its own alpha (42_ditherer.md R156). -/
theorem State.px_qdith {s : State} (hv : s.validate = .none) {x y : Nat} (hx : x < s.imgW) (hy : y < s.imgH) :
    s.qdith.px x y = emit (ditherChosen s s.qdith x y) (s.px x y) := by
  obtain ⟨-, -, -, -, -, hfits⟩ := State.validate_none hv
  rw [(State.DithersUpTo.qdith s).pixel x y hx hy]
  exact if_pos ⟨⟨hx, .inl hy⟩, (s.pixelIndex_lt hx hy).trans_le hfits⟩

end Sys2Proof.Machine
end

section
/-! The bounds of 42_ditherer.md R161, by its induction on x + 2y from the defining equations, and the fit in 32
bits. -/

namespace Sys2Proof.Machine

/-! ### Vectors between bounds -/

theorem Vec3.within.mono {lo hi lo' hi' : Int} {v : Vec3} (h : v.within lo hi) (hlo : lo' ≤ lo) (hhi : hi ≤ hi') :
    v.within lo' hi' := by
  unfold Vec3.within at *
  omega

theorem Vec3.within.add {lo hi lo' hi' : Int} {u v : Vec3} (hu : u.within lo hi) (hv : v.within lo' hi') :
    (u.add v).within (lo + lo') (hi + hi') := by
  simp only [Vec3.within, Vec3.add] at *
  omega

theorem Vec3.within.sub {lo hi lo' hi' : Int} {u v : Vec3} (hu : u.within lo hi) (hv : v.within lo' hi') :
    (u.sub v).within (lo - hi') (hi - lo') := by
  simp only [Vec3.within, Vec3.sub] at *
  omega

theorem Vec3.within.smul {m w : Int} {v : Vec3} (h : v.within (-m) m) (hw : 0 ≤ w) :
    (v.smul w).within (-(w * m)) (w * m) := by
  have hlane : ∀ a : Int, -m ≤ a ∧ a ≤ m → -(w * m) ≤ w * a ∧ w * a ≤ w * m := fun a ⟨hlo, hhi⟩ =>
    ⟨by rw [← mul_neg]; exact mul_le_mul_of_nonneg_left hlo hw, mul_le_mul_of_nonneg_left hhi hw⟩
  obtain ⟨hr, hg, hb⟩ := h
  exact ⟨hlane _ hr, hlane _ hg, hlane _ hb⟩

theorem Vec3.zero_within {m : Int} (hm : 0 ≤ m) : Vec3.zero.within (-m) m := by
  simp only [Vec3.within, Vec3.zero]
  omega

/-- Rounding from sixteenths takes multiples of 16 to the bounds themselves. -/
theorem Vec3.within.round16 {m : Int} {v : Vec3} (h : v.within (-(16 * m)) (16 * m)) : v.round16.within (-m) m := by
  simp only [Vec3.within, Vec3.round16, rhu16, fdiv] at *
  omega

theorem vecOf_within (q : Colour) : (vecOf q).within 0 255 := by
  have hr := (redOf q).isLt
  have hg := (greenOf q).isLt
  have hb := (blueOf q).isLt
  simp only [Vec3.within, vecOf]
  omega

/-! ### The induction -/

/-- A share from inside the image is bounded with its residual, and a dropped one is 0. -/
theorem Vec3.smul_ite_within {p : Prop} [Decidable p] {m w : Int} {v : Vec3} (hm : 0 ≤ m) (hw : 0 ≤ w)
    (h : p → v.within (-m) m) : (v.smul (if p then w else 0)).within (-(w * m)) (w * m) := by
  split
  · next hp => exact (h hp).smul hw
  · rw [Vec3.zero_smul]
    exact Vec3.zero_within (mul_nonneg hw hm)

/-- The weights sum to 16, and the pixels gathered from have a smaller x + 2y. -/
theorem ditherGather_within {W : Nat} {res : Nat → Nat → Vec3} {x y : Nat} {m : Int} (hm : 0 ≤ m) (hx : x < W)
    (h : ∀ a b, a < W → b ≤ y → a + 2 * b < x + 2 * y → (res a b).within (-m) m) :
    (ditherGather W res x y).within (-(16 * m)) (16 * m) := by
  have h7 := Vec3.smul_ite_within (p := 1 ≤ x) (w := 7) hm (by decide)
    fun hp => h (x - 1) y (by omega) le_rfl (by omega)
  have h3 := Vec3.smul_ite_within (p := x + 1 < W ∧ 1 ≤ y) (w := 3) hm (by decide)
    fun hp => h (x + 1) (y - 1) hp.1 (by omega) (by omega)
  have h5 := Vec3.smul_ite_within (p := 1 ≤ y) (w := 5) hm (by decide)
    fun hp => h x (y - 1) hx (by omega) (by omega)
  have h1 := Vec3.smul_ite_within (p := 1 ≤ x ∧ 1 ≤ y) (w := 1) hm (by decide)
    fun hp => h (x - 1) (y - 1) (by omega) (by omega) (by omega)
  exact (((h7.add h3).add h5).add h1).mono (by omega) (by omega)

theorem ditherEffective_within {s t : State} {x y : Nat} {m : Int} (h : (t.errAt x y).within (-(16 * m)) (16 * m)) :
    (ditherEffective s t x y).within (-m) (255 + m) :=
  ((vecOf_within _).add h.round16).mono (by omega) le_rfl

theorem ditherResidual_within {s t : State} {x y : Nat} {m : Int} (h : (t.errAt x y).within (-(16 * m)) (16 * m)) :
    (ditherResidual s t x y).within (-(255 + m)) (255 + m) :=
  ((ditherEffective_within h).sub (vecOf_within _)).mono (by omega) (by omega)

/-- Whatever satisfies the defining equation of the accumulators is bounded as R161 says. -/
theorem errAt_within_of_arrival {s t : State}
    (h : ∀ x y, x < s.imgW → y < s.imgH → t.errAt x y = ditherArrival s t x y) (x y : Nat) (hx : x < s.imgW)
    (hy : y < s.imgH) :
    (t.errAt x y).within (-(16 * (255 * (x + 2 * y)))) (16 * (255 * (x + 2 * y))) := by
  rw [h x y hx hy, ditherArrival_eq_gather]
  refine ditherGather_within (by omega) hx fun a b ha hb hlt => ?_
  have hsource := errAt_within_of_arrival h a b ha (hb.trans_lt hy)
  exact (ditherResidual_within hsource).mono (by omega) (by omega)
termination_by x + 2 * y

/-! ### The accumulators of a state -/

/-- Every accumulator fits a 32-bit two's complement register (42_ditherer.md R161). -/
def State.errFits (s : State) : Prop := ∀ e ∈ s.ditherErr, e.within (-(2 ^ 31)) (2 ^ 31 - 1)

/-- The dimensions are 16-bit fields, so that x + 2y stays small enough. -/
theorem State.within_32_bits (s : State) {x y : Nat} (hx : x < s.imgW) (hy : y < s.imgH) {e : Vec3}
    (h : e.within (-(16 * (255 * (x + 2 * y)))) (16 * (255 * (x + 2 * y)))) : e.within (-(2 ^ 31)) (2 ^ 31 - 1) := by
  have hW : s.imgW < 2 ^ 16 := s.width.isLt
  have hH : s.imgH < 2 ^ 16 := s.height.isLt
  exact h.mono (by omega) (by omega)

theorem State.errAt_qdith_within (s : State) {x y : Nat} (hx : x < s.imgW) (hy : y < s.imgH) :
    (s.qdith.errAt x y).within (-(16 * (255 * (x + 2 * y)))) (16 * (255 * (x + 2 * y))) :=
  errAt_within_of_arrival (fun _ _ hx hy => s.errAt_qdith hx hy) x y hx hy

/-- The list of accumulators holds those of the image and no other. -/
theorem State.exists_errAt_of_mem_qdith {s : State} {e : Vec3} (he : e ∈ s.qdith.ditherErr) :
    ∃ x y, x < s.imgW ∧ y < s.imgH ∧ s.qdith.errAt x y = e := by
  have h := State.DithersUpTo.qdith s
  obtain ⟨k, hk, rfl⟩ := List.mem_iff_getElem.1 he
  obtain ⟨⟨x, y⟩, hxy, hindex⟩ := State.exists_pixelIndex (h.length ▸ hk)
  obtain ⟨hx, hy⟩ := State.mem_rasterList.1 hxy
  refine ⟨x, y, hx, hy, ?_⟩
  rw [State.errAt, h.pixelIndex, hindex, List.getD_eq_getElem _ _ hk]

/-- QDITH leaves accumulators that fit, whatever the configuration and the accumulators it starts from. -/
theorem State.qdith_errFits (s : State) : s.qdith.errFits := by
  intro e he
  obtain ⟨x, y, hx, hy, rfl⟩ := State.exists_errAt_of_mem_qdith he
  exact s.within_32_bits hx hy (s.errAt_qdith_within hx hy)

theorem State.errFits.of_eq {s t : State} (h : s.errFits) (he : t.ditherErr = s.ditherErr) : t.errFits :=
  fun e hmem => h e (he ▸ hmem)

theorem ditherErr_of_memOnly {s t : State} (h : t = { s with mem := t.mem }) : t.ditherErr = s.ditherErr := by
  rw [h]

theorem State.errFits.after_processing {s : State} (h : s.errFits) (i : Instr) : (processing i s).errFits := by
  cases i with
  | nop => exact h
  | pixmean => exact h.of_eq (ditherErr_of_memOnly (s.aggregate_memOnly meanColour))
  | pixmode => exact h.of_eq (ditherErr_of_memOnly (s.aggregate_memOnly modeColour))
  | qnear => exact h.of_eq (ditherErr_of_memOnly s.qnear_memOnly)
  | qdith => exact s.qdith_errFits

theorem State.errFits.after_exec {s t : State} (h : s.errFits) {i : Instr} (ht : exec i s = .next t) : t.errFits := by
  rw [exec_eq] at ht
  cases ht
  split
  · exact (h.after_processing i).of_eq rfl
  · obtain ⟨-, he⟩ | ⟨-, -, -, he⟩ | ⟨-, -, he⟩ := s.issue_cases i <;> rw [he] <;> exact h.of_eq rfl

theorem State.ditherErr_issueIllegal (s : State) : s.issueIllegal.ditherErr = s.ditherErr := by
  obtain ⟨-, he⟩ | ⟨-, he⟩ := s.issueIllegal_cases <;> rw [he] <;> rfl

/-- No host write reaches the accumulators (10_state.md R33). -/
theorem State.ditherErr_hostWrite (l : Loc) (v : Word) (s : State) : (s.hostWrite l v).ditherErr = s.ditherErr := by
  obtain ⟨he, -⟩ | ⟨-, he⟩ | ⟨-, he⟩ | ⟨-, he⟩ |
    ⟨-, ⟨-, he⟩ | ⟨-, he⟩ | ⟨-, he⟩ | ⟨-, he⟩ | ⟨_, -, he⟩ | ⟨_, -, he⟩⟩ := s.hostWrite_cases l v <;> rw [he] <;> rfl

theorem State.ditherErr_hostRead (l : Loc) (s : State) : (s.hostRead l).ditherErr = s.ditherErr := by
  rw [State.hostRead_frame]

theorem State.errFits.step_of_run {s t : State} (h : s.errFits) {i : Instr} (hd : s.due = .run i)
    (ht : step s = .next t) : t.errFits := by
  obtain ⟨u, hu, -⟩ := exec_next i s
  rw [step_run hd, hu] at ht
  cases ht
  exact (h.after_exec hu).of_eq rfl

theorem State.errFits.step_of_settle {s t u : State} (h : u.errFits) (hd : s.due = .settle u)
    (ht : step s = .next t) : t.errFits := by
  rw [step_settle hd] at ht
  cases ht
  exact h.of_eq rfl

/-- Settles O25: of the events that can be due, the completion of QDITH leaves new accumulators, which fit, a reset
leaves none, and every other event leaves those there are. -/
theorem everyStepKeepsAccumulatorsIn32Bits : Obligations.EveryStepKeepsAccumulatorsIn32Bits := by
  intro s t (h : s.errFits) ht
  change t.errFits
  obtain ⟨i, -, -, hd⟩ | ⟨-, -, hd⟩ | ⟨_, _, _, i, -, -, -, -, hd⟩ | ⟨_, _, _, _, -, -, -, -, hd⟩ |
    ⟨_, _, _, -, -, -, hd⟩ | ⟨_, _, -, -, hd⟩ | ⟨_, -, hd⟩ | ⟨_, _, -, -, hd⟩ := s.due_cases
  · exact h.step_of_run hd ht
  · exact h.step_of_settle hd ht
  · exact h.step_of_run hd ht
  · exact (h.of_eq s.ditherErr_issueIllegal).step_of_settle hd ht
  · exact (h.of_eq (State.ditherErr_hostWrite _ _ s)).step_of_settle hd ht
  · exact (h.of_eq (State.ditherErr_hostRead _ s)).step_of_settle hd ht
  · exact State.errFits.step_of_settle (u := s.resetEvent) nofun hd ht
  · rw [step_of_refuse hd] at ht
    cases ht

/-- Settles O24: the accumulators by induction, then effective colour and residual from their pixel's
accumulator. -/
theorem ditherErrorIsBounded : Obligations.DitherErrorIsBounded := by
  intro s hdue
  refine ⟨_, exec_completion hdue, fun x y hx hy => ?_⟩
  have herr : ((processing .qdith s).complete.errAt x y).within (-(16 * (255 * (x + 2 * y))))
      (16 * (255 * (x + 2 * y))) := s.errAt_qdith_within hx hy
  exact ⟨(ditherResidual_within herr).mono (by omega) (by omega),
    (ditherEffective_within herr).mono (by omega) (by omega), herr.mono (by omega) (by omega),
    s.within_32_bits hx hy herr⟩

end Sys2Proof.Machine
end

section
/-! What QDITH makes of the bitmap: its defining equations, and three cases of them (42_ditherer.md R152, R160,
R162). -/

namespace Sys2Proof.Machine

/-- Settles O16: the equations by the raster loop, the frame by what QDITH can change. -/
theorem qdithResult : Obligations.QdithResult := by
  intro s hdue hv
  have h := State.DithersUpTo.qdith s
  refine ⟨_, exec_completion hdue, ?_, h.length, fun x y hx hy => ?_, h.outside⟩
  · change s.qdith.complete = _
    rw [s.qdith_frame]
    rfl
  · have hpx : (processing .qdith s).complete.px x y =
        emit (ditherChosen s (processing .qdith s).complete x y) (s.px x y) := State.px_qdith hv hx hy
    have hindex : (processing .qdith s).complete.pixelIndex x y = s.pixelIndex x y := h.pixelIndex x y
    refine ⟨s.errAt_qdith hx hy, ?_, ?_, ?_⟩
    · rw [← hindex]
      exact hpx
    · rw [hpx]
      exact rgbOf_emit _ _
    · rw [hpx]
      exact alphaOf_emit _ _

/-- Settles O26: QDITH only lists the memory anew, so the accumulators are those it started from. -/
theorem paletteColouredBitmapDithersToItself : Obligations.PaletteColouredBitmapDithersToItself := by
  intro s hdue _ hcolours
  have h := State.qdith_sameBytes hcolours
  refine ⟨_, exec_completion hdue, h.byteAt, ?_⟩
  change s.qdith.ditherErr = _
  rw [h.memOnly]
  rfl

/-- No pixel comes before pixel (0, 0), so nothing arrives there and its effective colour is its own. -/
theorem ditherChosen_origin {s t : State} (h : t.errAt 0 0 = ditherArrival s t 0 0) :
    ditherChosen s t 0 0 = s.palEntry (s.nearest (s.pixelVec (s.pixelIndex 0 0))) := by
  have harrival : ditherArrival s t 0 0 = Vec3.zero := by
    simp [ditherArrival_eq_gather, ditherGather]
  rw [ditherChosen, ditherEffective, h, harrival, Vec3.round16_zero, Vec3.add_zero]

/-- Settles O27: `QdithResult` at pixel (0, 0). -/
theorem ditherFirstPixelAsQnear : Obligations.DitherFirstPixelAsQnear := by
  intro s hdue hv
  obtain ⟨-, -, -, hW, hH, -⟩ := State.validate_none hv
  obtain ⟨t, ht, -, -, hpixels, -⟩ := qdithResult s hdue hv
  obtain ⟨herr, hpixel, -⟩ := hpixels 0 0 hW hH
  have hzero : s.pixelIndex 0 0 = 0 := by simp [State.pixelIndex]
  rw [ditherChosen_origin herr, State.px, hzero] at hpixel
  exact ⟨t, ht, hpixel⟩

/-- Zeroing the accumulators forgets what they held (42_ditherer.md R152). -/
theorem State.qdith_withErr (s : State) (old : List Vec3) : { s with ditherErr := old }.qdith = s.qdith := rfl

/-- Settles O28: QDITH's first act is to zero the accumulators. -/
theorem ditherForgetsOldAccumulators : Obligations.DitherForgetsOldAccumulators := by
  intro s old hdue
  have hsame : processing .qdith { s with ditherErr := old } = processing .qdith s := s.qdith_withErr old
  refine ⟨_, exec_completion hdue, ?_⟩
  rw [exec_completion (s := { s with ditherErr := old }) hdue, hsame]

end Sys2Proof.Machine
end

section
/-! The blocks of the downsampler: which pixels they hold, in which order, and that they partition the bitmap
(43_downsampler.md R170, R171, R176). -/

namespace Sys2Proof.Machine

/-! ### One axis -/

theorem length_blockSpan (k side limit : Nat) :
    (blockSpan k side limit).length = min (k * side + side) limit - k * side :=
  List.length_range'

theorem nodup_blockSpan (k side limit : Nat) : (blockSpan k side limit).Nodup :=
  List.nodup_range' 1

/-- A coordinate lies in the span of its quotient and in no other. -/
theorem mem_blockSpan_iff_eq_div {k side limit c : Nat} (hside : 0 < side) (hc : c < limit) :
    c ∈ blockSpan k side limit ↔ k = c / side := by
  rw [mem_blockSpan, eq_comm, Nat.div_eq_iff hside]
  omega

/-- Only the blocks that exist have coordinates. -/
theorem lt_cdiv_of_mem_blockSpan {k side limit c : Nat} (h : c ∈ blockSpan k side limit) : k < cdiv limit side := by
  obtain ⟨hlow, hhigh, hc⟩ := mem_blockSpan.1 h
  have hceil : limit ≤ cdiv limit side * side := le_cdiv_mul (by omega) limit
  exact Nat.lt_of_mul_lt_mul_right (hlow.trans_lt (hc.trans_le hceil))

/-- A block that exists has its first coordinate. -/
theorem length_blockSpan_pos {k side limit : Nat} (hside : 0 < side) (hk : k < cdiv limit side) :
    0 < (blockSpan k side limit).length := by
  have hceil : cdiv limit side * side < limit + side := cdiv_mul_lt hside limit
  have hnext : (k + 1) * side ≤ cdiv limit side * side := Nat.mul_le_mul_right side hk
  rw [Nat.succ_mul] at hnext
  rw [length_blockSpan]
  omega

/-- The first `n` blocks cover the axis as far as they reach. -/
theorem sum_length_blockSpan_range (side limit n : Nat) :
    ((List.range n).map fun k => (blockSpan k side limit).length).sum = min (n * side) limit := by
  induction n with
  | zero => simp
  | succ n ih =>
    rw [List.range_succ, List.map_append, List.sum_append, ih, Nat.succ_mul, List.map_singleton, List.sum_singleton,
      length_blockSpan]
    omega

theorem sum_length_blockSpan {side : Nat} (hside : 0 < side) (limit : Nat) :
    ((List.range (cdiv limit side)).map fun k => (blockSpan k side limit).length).sum = limit := by
  rw [sum_length_blockSpan_range, Nat.min_eq_right (le_cdiv_mul hside limit)]

/-! ### The pixels of a block -/

theorem State.pixelIndex_mod (s : State) {x : Nat} (hx : x < s.imgW) (y : Nat) : s.pixelIndex x y % s.imgW = x := by
  rw [State.pixelIndex, Nat.mul_add_mod', Nat.mod_eq_of_lt hx]

theorem State.pixelIndex_div (s : State) {x : Nat} (hx : x < s.imgW) (y : Nat) : s.pixelIndex x y / s.imgW = y := by
  rw [State.pixelIndex, Nat.mul_comm, Nat.mul_add_div (Nat.zero_lt_of_lt hx), Nat.div_eq_of_lt hx, Nat.add_zero]

theorem State.pixelIndex_mem_blockIndices_iff {s : State} (hP : 0 < s.blockP) {x y : Nat} (hx : x < s.imgW)
    (hy : y < s.imgH) (bx bY : Nat) :
    s.pixelIndex x y ∈ s.blockIndices bx bY ↔ bx = x / s.blockP ∧ bY = y / s.blockP := by
  constructor
  · intro h
    have hblock := State.block_of_mem h
    rwa [s.pixelIndex_mod hx, s.pixelIndex_div hx] at hblock
  · rintro ⟨hbx, hbY⟩
    exact s.mem_blockIndices.2
      ⟨y, (mem_blockSpan_iff_eq_div hP hy).2 hbY, x, (mem_blockSpan_iff_eq_div hP hx).2 hbx, rfl⟩

theorem State.length_blockIndices (s : State) (bx bY : Nat) :
    (s.blockIndices bx bY).length =
      (blockSpan bx s.blockP s.imgW).length * (blockSpan bY s.blockP s.imgH).length := by
  simp [State.blockIndices, List.length_flatMap, Nat.mul_comm]

/-- The rows of a block hold different pixels, and so do the columns of a row. -/
theorem State.nodup_blockIndices (s : State) (bx bY : Nat) : (s.blockIndices bx bY).Nodup := by
  refine List.nodup_flatMap.2 ⟨fun y _ => ?_, (nodup_blockSpan bY s.blockP s.imgH).imp fun {y y'} hne => ?_⟩
  · refine (nodup_blockSpan bx s.blockP s.imgW).map_on fun x hx x' hx' heq => ?_
    exact (s.pixelIndex_inj (mem_blockSpan.1 hx).2.2 (mem_blockSpan.1 hx').2.2 heq).1
  · intro k hk hk'
    obtain ⟨x, hx, rfl⟩ := List.mem_map.1 hk
    obtain ⟨x', hx', heq⟩ := List.mem_map.1 hk'
    exact hne (s.pixelIndex_inj (mem_blockSpan.1 hx).2.2 (mem_blockSpan.1 hx').2.2 heq.symm).2

/-- The lengths of the blocks are products, so their sum is the product of the sums over the two axes. -/
theorem State.sum_length_blockIndices {s : State} (hP : 0 < s.blockP) :
    ((List.range s.nby).map fun bY =>
      ((List.range s.nbx).map fun bx => (s.blockIndices bx bY).length).sum).sum = s.imgW * s.imgH := by
  simp only [State.length_blockIndices, List.sum_map_mul_right, List.sum_map_mul_left]
  rw [State.nbx, State.nby, sum_length_blockSpan hP, sum_length_blockSpan hP]

/-- Settles O29: both axes are cut the same way, and a block is the product of two spans. -/
theorem blocksPartitionTheBitmap : Obligations.BlocksPartitionTheBitmap := by
  intro s hP _ _
  refine ⟨fun x y hx hy => ⟨?_, ?_, State.pixelIndex_mem_blockIndices_iff hP hx hy⟩, fun bx bY hbx hbY => ?_,
    State.sum_length_blockIndices hP⟩
  · exact lt_cdiv_of_mem_blockSpan ((mem_blockSpan_iff_eq_div hP hx).2 rfl)
  · exact lt_cdiv_of_mem_blockSpan ((mem_blockSpan_iff_eq_div hP hy).2 rfl)
  · have hlen := s.length_blockIndices bx bY
    refine ⟨by rw [hlen, length_blockSpan, length_blockSpan], ?_, s.nodup_blockIndices bx bY⟩
    rw [hlen]
    exact Nat.mul_pos (length_blockSpan_pos hP hbx) (length_blockSpan_pos hP hbY)

/-! ### The order of a block -/

/-- In a concatenation of rows of one width `w`, position `i * w + j` is column `j` of row `i`. -/
theorem getElem?_flatMap_of_length {α β : Type} {f : α → List β} {w : Nat} (hf : ∀ a, (f a).length = w) {j : Nat}
    (hj : j < w) (l : List α) (i : Nat) : (l.flatMap f)[i * w + j]? = l[i]?.bind fun a => (f a)[j]? := by
  induction l generalizing i with
  | nil => simp
  | cons a rest ih =>
    rw [List.flatMap_cons]
    cases i with
    | zero => rw [Nat.zero_mul, Nat.zero_add, List.getElem?_append_left ((hf a).symm ▸ hj)]; rfl
    | succ i =>
      have hrest : (i + 1) * w + j - (f a).length = i * w + j := by rw [hf, Nat.succ_mul]; omega
      rw [List.getElem?_append_right (by rw [hf, Nat.succ_mul]; omega), hrest, ih, List.getElem?_cons_succ]

theorem getElem?_blockSpan {k side limit c : Nat} (h : c ∈ blockSpan k side limit) :
    (blockSpan k side limit)[c - k * side]? = some c := by
  obtain ⟨hlow, hhigh, hc⟩ := mem_blockSpan.1 h
  rw [blockSpan, List.getElem?_range' (by omega)]
  congr 1
  omega

/-- A block lists its pixels row by row (43_downsampler.md R176). -/
theorem State.getElem?_blockIndices (s : State) {bx bY x y : Nat} (hx : x ∈ blockSpan bx s.blockP s.imgW)
    (hy : y ∈ blockSpan bY s.blockP s.imgH) :
    (s.blockIndices bx bY)[(y - bY * s.blockP) * (blockSpan bx s.blockP s.imgW).length + (x - bx * s.blockP)]? =
      some (s.pixelIndex x y) := by
  have hcol : x - bx * s.blockP < (blockSpan bx s.blockP s.imgW).length :=
    (List.getElem?_eq_some_iff.1 (getElem?_blockSpan hx)).1
  rw [State.blockIndices, getElem?_flatMap_of_length (fun _ => List.length_map _) hcol, getElem?_blockSpan hy,
    Option.bind_some, List.getElem?_map, getElem?_blockSpan hx, Option.map_some]

end Sys2Proof.Machine
end

section
/-! The two aggregators: the rounded mean and the mode of a list of colours (43_downsampler.md R172, R173, R176). -/

namespace Sys2Proof.Machine

/-! ### The mean -/

theorem rhuDiv_natCast (a b : Nat) : rhuDiv a b = ((2 * a + b) / (2 * b) : Nat) := by
  simp [rhuDiv, fdiv]

theorem channelSum_le (c : Colour → Byte) (l : List Colour) : channelSum c l ≤ 255 * l.length := by
  induction l with
  | nil => exact Nat.le_refl 0
  | cons q rest ih =>
    have hq : (c q).toNat ≤ 255 := Nat.le_of_lt_succ (c q).isLt
    have hcons : channelSum c (q :: rest) = (c q).toNat + channelSum c rest := List.sum_cons
    rw [hcons, List.length_cons]
    omega

/-- The quotient fits the channel: at the bound it is `511 n / 2 n = 255` (43_downsampler.md R172). -/
theorem toNat_channelMean (c : Colour → Byte) {l : List Colour} (hl : l ≠ []) :
    (channelMean c l).toNat = (2 * channelSum c l + l.length) / (2 * l.length) := by
  have hpos : 0 < l.length := List.length_pos_iff.2 hl
  have hfits : (2 * channelSum c l + l.length) / (2 * l.length) < 2 ^ 8 := by
    have hsum := channelSum_le c l
    rw [Nat.div_lt_iff_lt_mul (by omega)]
    omega
  rw [channelMean, rhuDiv_natCast, BitVec.ofInt_natCast, BitVec.toNat_ofNat, Nat.mod_eq_of_lt hfits]

/-- Settles O30: each channel by its rounded quotient, the colour by the placing of its channels. -/
theorem channelMeanIsRoundedHalfUp : Obligations.ChannelMeanIsRoundedHalfUp :=
  ⟨fun c l hl => ⟨rfl, toNat_channelMean c hl, channelSum_le c l⟩,
   fun _ => ⟨rfl, redOf_colourOf _ _ _, greenOf_colourOf _ _ _, blueOf_colourOf _ _ _⟩,
   fun _ => ⟨rfl, rfl, rfl⟩⟩

/-! ### The mode -/

/-- One colour of the loop that finds the mode of `l`: only a strictly greater count replaces the best so far
(43_downsampler.md R176). -/
def moreFrequent (l : List Colour) (best v : Colour) : Colour := if l.count best < l.count v then v else best

theorem modeColour_eq_foldl (l : List Colour) : modeColour l = l.foldl (moreFrequent l) (l.headD 0#24) := rfl

/-- Rank `T` of `l` is the mode as far as the first `n` ranks tell: none of these colours is more frequent, and those of
earlier ranks are less frequent. -/
structure ModeRank (l : List Colour) (n T : Nat) : Prop where
  lt : T < n
  le : ∀ u, u < n → l.count (l.getD u 0#24) ≤ l.count (l.getD T 0#24)
  first : ∀ u, u < T → l.count (l.getD u 0#24) < l.count (l.getD T 0#24)

theorem modeRank_one (l : List Colour) : ModeRank l 1 0 where
  lt := Nat.zero_lt_one
  le u hu := by rw [Nat.lt_one_iff.1 hu]
  first u hu := absurd hu (Nat.not_lt_zero u)

/-- A more frequent colour at the next rank is more frequent than all before it, and any other leaves the earlier rank
in place. -/
theorem ModeRank.extend {l : List Colour} {n T : Nat} (h : ModeRank l n T) :
    ∃ T', ModeRank l (n + 1) T' ∧ moreFrequent l (l.getD T 0#24) (l.getD n 0#24) = l.getD T' 0#24 := by
  by_cases hmore : l.count (l.getD T 0#24) < l.count (l.getD n 0#24)
  · have hall : ∀ u, u < n → l.count (l.getD u 0#24) < l.count (l.getD n 0#24) :=
      fun u hu => (h.le u hu).trans_lt hmore
    refine ⟨n, ⟨Nat.lt_succ_self n, fun u hu => ?_, hall⟩, if_pos hmore⟩
    obtain hu | rfl := Nat.lt_succ_iff_lt_or_eq.1 hu
    · exact (hall u hu).le
    · exact le_rfl
  · refine ⟨T, ⟨h.lt.trans (Nat.lt_succ_self n), fun u hu => ?_, h.first⟩, if_neg hmore⟩
    obtain hu | rfl := Nat.lt_succ_iff_lt_or_eq.1 hu
    · exact h.le u hu
    · exact not_lt.1 hmore

theorem foldl_moreFrequent_eq_modeRank (l : List Colour) {n : Nat} (hn : 1 ≤ n) (hnl : n ≤ l.length) :
    ∃ T, ModeRank l n T ∧ (l.take n).foldl (moreFrequent l) (l.headD 0#24) = l.getD T 0#24 := by
  induction n, hn using Nat.le_induction with
  | base =>
    cases l with
    | nil => exact absurd hnl (by decide)
    | cons v rest => exact ⟨0, modeRank_one _, ite_self _⟩
  | succ n _ ih =>
    have hn : n < l.length := hnl
    obtain ⟨T, hT, hfold⟩ := ih hn.le
    rw [← List.take_concat_get' l n hn, List.foldl_append, hfold, ← List.getD_eq_getElem l 0#24 hn]
    exact hT.extend

/-- The mode is the colour at the least rank of maximal count (43_downsampler.md R176). -/
theorem modeColour_eq_modeRank {l : List Colour} (hl : l ≠ []) :
    ∃ T, ModeRank l l.length T ∧ modeColour l = l.getD T 0#24 := by
  have h := foldl_moreFrequent_eq_modeRank l (List.length_pos_iff.2 hl) le_rfl
  rwa [List.take_length] at h

/-- Settles O31: the loop's rank for the mode, the rows of a block for the ranks. -/
theorem modeIsFirstMostFrequentColour : Obligations.ModeIsFirstMostFrequentColour := by
  refine ⟨fun l hl => ?_, fun s bx bY x y hx hx' hy hy' => ?_⟩
  · obtain ⟨T, hT, hmode⟩ := modeColour_eq_modeRank hl
    exact ⟨T, hT.lt, hmode, hT.le, hT.first⟩
  · have hxspan : x ∈ blockSpan bx s.blockP s.imgW := mem_blockSpan.2 ⟨hx, lt_min_iff.1 hx'⟩
    have hyspan : y ∈ blockSpan bY s.blockP s.imgH := mem_blockSpan.2 ⟨hy, lt_min_iff.1 hy'⟩
    rw [← length_blockSpan]
    exact s.getElem?_blockIndices hxspan hyspan

/-- The mode never creates a colour (43_downsampler.md R177). -/
theorem modeColour_mem {l : List Colour} (hl : l ≠ []) : modeColour l ∈ l := by
  obtain ⟨T, hT, hmode⟩ := modeColour_eq_modeRank hl
  rw [hmode, List.getD_eq_getElem l _ hT.lt]
  exact List.getElem_mem hT.lt

/-! ### Lists of one colour -/

/-- The aggregator gives back the colour of a list that holds no other. -/
def KeepsUniform (rep : List Colour → Colour) : Prop :=
  ∀ (l : List Colour) (q : Colour), l ≠ [] → (∀ v ∈ l, v = q) → rep l = q

theorem channelSum_of_uniform (c : Colour → Byte) {l : List Colour} {q : Colour} (h : ∀ v ∈ l, v = q) :
    channelSum c l = l.length * (c q).toNat := by
  rw [channelSum, List.map_congr_left (g := fun _ => (c q).toNat) fun v hv => by rw [h v hv], List.map_const',
    List.sum_replicate, smul_eq_mul]

/-- `(2 n v + n) / 2 n` is `v`. -/
theorem channelMean_of_uniform (c : Colour → Byte) {l : List Colour} {q : Colour} (hl : l ≠ [])
    (h : ∀ v ∈ l, v = q) : channelMean c l = c q := by
  have hpos : 0 < l.length := List.length_pos_iff.2 hl
  apply BitVec.eq_of_toNat_eq
  rw [toNat_channelMean c hl, channelSum_of_uniform c h, ← mul_assoc, Nat.mul_add_div (by omega),
    Nat.div_eq_of_lt (by omega), Nat.add_zero]

theorem meanColour_keepsUniform : KeepsUniform meanColour := fun l q hl h => by
  rw [meanColour, channelMean_of_uniform redOf hl h, channelMean_of_uniform greenOf hl h,
    channelMean_of_uniform blueOf hl h, colourOf_channels]

theorem modeColour_keepsUniform : KeepsUniform modeColour := fun l _ hl h =>
  h (modeColour l) (modeColour_mem hl)

end Sys2Proof.Machine
end

section
/-! The downsampler pixel by pixel, for any aggregator and in any order of the blocks (43_downsampler.md R175, R177, R178,
R180). -/

namespace Sys2Proof.Machine

/-! ### The block of a pixel -/

/-- The block of pixel `k`, by its column and row (43_downsampler.md R170). -/
def State.blockOf (s : State) (k : Nat) : Nat × Nat := (k % s.imgW / s.blockP, k / s.imgW / s.blockP)

/-- The pixels of the block of pixel `k`; `k` is one of them exactly when it is a pixel of a block. -/
def State.pixelBlock (s : State) (k : Nat) : List Nat := s.blockIndices (s.blockOf k).1 (s.blockOf k).2

/-- What a downsampling command makes of pixel `k`: the representative colour of its block, with its own alpha
(43_downsampler.md R175, R178). -/
def State.aggregatedPixel (rep : List Colour → Colour) (s : State) (k : Nat) : Word :=
  emit (rep (s.coloursAt (s.pixelBlock k))) (s.pixel k)

theorem State.blockOf_of_mem {s : State} {bx bY k : Nat} (h : k ∈ s.blockIndices bx bY) : s.blockOf k = (bx, bY) :=
  Prod.ext (State.block_of_mem h).1.symm (State.block_of_mem h).2.symm

theorem State.pixelBlock_of_mem {s : State} {bx bY k : Nat} (h : k ∈ s.blockIndices bx bY) :
    s.pixelBlock k = s.blockIndices bx bY := by
  rw [State.pixelBlock, State.blockOf_of_mem h]

theorem State.mem_blockIndices_iff_blockOf {s : State} {bx bY k : Nat} :
    k ∈ s.blockIndices bx bY ↔ s.blockOf k = (bx, bY) ∧ k ∈ s.pixelBlock k := by
  constructor
  · intro h
    exact ⟨State.blockOf_of_mem h, (State.pixelBlock_of_mem h).symm ▸ h⟩
  · rintro ⟨hblock, h⟩
    rwa [State.pixelBlock, hblock] at h

theorem State.mem_pixelBlock {s : State} (hP : 0 < s.blockP) {k : Nat} (hk : k < s.imgW * s.imgH) :
    k ∈ s.pixelBlock k := by
  have hW : 0 < s.imgW := Nat.pos_of_mul_pos_right (Nat.zero_lt_of_lt hk)
  have hcol : k % s.imgW ∈ blockSpan (s.blockOf k).1 s.blockP s.imgW :=
    (mem_blockSpan_iff_eq_div hP (Nat.mod_lt k hW)).2 rfl
  have hrow : k / s.imgW ∈ blockSpan (s.blockOf k).2 s.blockP s.imgH :=
    (mem_blockSpan_iff_eq_div hP (Nat.div_lt_of_lt_mul hk)).2 rfl
  exact s.mem_blockIndices.2 ⟨_, hrow, _, hcol, Nat.div_add_mod' k s.imgW⟩

/-! ### One block -/

theorem State.maxPix_aggregateBlock (rep : List Colour → Colour) (bx bY : Nat) (s : State) :
    (s.aggregateBlock rep bx bY).maxPix = s.maxPix := by
  rw [State.aggregateBlock_memOnly]
  rfl

theorem State.blockOf_aggregateBlock (rep : List Colour → Colour) (bx bY : Nat) (s : State) (k : Nat) :
    (s.aggregateBlock rep bx bY).blockOf k = s.blockOf k := by
  rw [State.aggregateBlock_memOnly]
  rfl

theorem State.pixelBlock_aggregateBlock (rep : List Colour → Colour) (bx bY : Nat) (s : State) (k : Nat) :
    (s.aggregateBlock rep bx bY).pixelBlock k = s.pixelBlock k := by
  rw [State.aggregateBlock_memOnly]
  rfl

theorem State.pixel_aggregateBlock (rep : List Colour → Colour) (bx bY : Nat) (s : State) (k : Nat) :
    (s.aggregateBlock rep bx bY).pixel k =
      if s.blockOf k = (bx, bY) ∧ k ∈ s.pixelBlock k ∧ k < s.maxPix then s.aggregatedPixel rep k else s.pixel k := by
  have hiff : k ∈ s.blockIndices bx bY ∧ k < s.maxPix ↔
      s.blockOf k = (bx, bY) ∧ k ∈ s.pixelBlock k ∧ k < s.maxPix := by
    rw [State.mem_blockIndices_iff_blockOf, and_assoc]
  rw [State.aggregateBlock, State.pixel_fill]
  by_cases h : k ∈ s.blockIndices bx bY ∧ k < s.maxPix
  · rw [if_pos h, if_pos (hiff.1 h), State.aggregatedPixel, State.pixelBlock_of_mem h.1]
  · rw [if_neg h, if_neg (mt hiff.2 h)]

/-- Work on another block is invisible to a block: it reads its own pixels alone (43_downsampler.md R180). -/
theorem State.aggregatedPixel_aggregateBlock_of_ne (rep : List Colour → Colour) {bx bY k : Nat} {s : State}
    (hne : s.blockOf k ≠ (bx, bY)) :
    (s.aggregateBlock rep bx bY).aggregatedPixel rep k = s.aggregatedPixel rep k := by
  have hkeep : ∀ m, s.blockOf m = s.blockOf k → (s.aggregateBlock rep bx bY).pixel m = s.pixel m := fun m hm => by
    rw [State.pixel_aggregateBlock, if_neg fun h => hne (hm.symm.trans h.1)]
  have hcolours : (s.aggregateBlock rep bx bY).coloursAt (s.pixelBlock k) = s.coloursAt (s.pixelBlock k) :=
    List.map_congr_left fun m hm => congrArg rgbOf (hkeep m (State.blockOf_of_mem hm))
  rw [State.aggregatedPixel, State.pixelBlock_aggregateBlock, hcolours, hkeep k rfl, State.aggregatedPixel]

/-! ### Any list of blocks -/

/-- The blocks of `l` in place, one after the other (43_downsampler.md R180). -/
def State.aggregateBlocks (rep : List Colour → Colour) (l : List (Nat × Nat)) (s : State) : State :=
  l.foldl (fun t b => t.aggregateBlock rep b.1 b.2) s

/-- A list that names no block twice aggregates exactly the pixels of its blocks. -/
theorem State.pixel_aggregateBlocks (rep : List Colour → Colour) {l : List (Nat × Nat)} (hl : l.Nodup) (s : State)
    (k : Nat) : (s.aggregateBlocks rep l).pixel k =
      if s.blockOf k ∈ l ∧ k ∈ s.pixelBlock k ∧ k < s.maxPix then s.aggregatedPixel rep k else s.pixel k := by
  induction l generalizing s with
  | nil => simp [State.aggregateBlocks]
  | cons b rest ih =>
    obtain ⟨hb, hrest⟩ := List.nodup_cons.1 hl
    have hstep := s.pixel_aggregateBlock rep b.1 b.2 k
    have hcons : s.aggregateBlocks rep (b :: rest) = (s.aggregateBlock rep b.1 b.2).aggregateBlocks rep rest := rfl
    rw [hcons, ih hrest, State.blockOf_aggregateBlock, State.pixelBlock_aggregateBlock, State.maxPix_aggregateBlock]
    by_cases hkb : s.blockOf k = b
    · simpa [hkb, hb] using hstep
    · have hkeep : (s.aggregateBlock rep b.1 b.2).pixel k = s.pixel k := hstep.trans (if_neg fun h => hkb h.1)
      simp [hkb, hkeep, State.aggregatedPixel_aggregateBlock_of_ne rep hkb]

theorem State.changesOnlyBitmap_aggregateBlocks (rep : List Colour → Colour) (l : List (Nat × Nat)) (s : State) :
    s.ChangesOnlyBitmap (s.aggregateBlocks rep l) :=
  foldl_keeps _ s.ChangesOnlyBitmap l (fun _ b _ ht => ht.aggregateBlock rep b.1 b.2) (.refl s)

theorem State.byteAt_aggregateBlocks_low (rep : List Colour → Colour) (l : List (Nat × Nat)) (s : State) {a : Nat}
    (ha : a < frameBase) : (s.aggregateBlocks rep l).byteAt a = s.byteAt a :=
  (s.changesOnlyBitmap_aggregateBlocks rep l).outside a fun h => Nat.not_le.2 ha h.1

/-! ### All blocks -/

theorem State.aggregate_eq_aggregateBlocks (rep : List Colour → Colour) (s : State) :
    s.aggregate rep = s.aggregateBlocks rep s.blockList := s.aggregate_eq_foldl rep

theorem State.mem_blockList {s : State} {b : Nat × Nat} : b ∈ s.blockList ↔ b.1 < s.nbx ∧ b.2 < s.nby := by
  obtain ⟨bx, bY⟩ := b
  simp [State.blockList, and_comm]

theorem State.nodup_blockList (s : State) : s.blockList.Nodup := by
  refine List.nodup_flatMap.2 ⟨fun bY _ => ?_, List.nodup_range.imp fun {bY bY'} hne => ?_⟩
  · exact List.nodup_range.map (Prod.mk_left_injective bY)
  · intro b hb hb'
    obtain ⟨bx, -, rfl⟩ := List.mem_map.1 hb
    obtain ⟨bx', -, heq⟩ := List.mem_map.1 hb'
    exact hne (congrArg Prod.snd heq).symm

/-- A block with a pixel is one of the blocks visited. -/
theorem State.blockOf_mem_blockList {s : State} {k : Nat} (h : k ∈ s.pixelBlock k) : s.blockOf k ∈ s.blockList := by
  obtain ⟨y, hy, x, hx, -⟩ := s.mem_blockIndices.1 h
  exact State.mem_blockList.2 ⟨lt_cdiv_of_mem_blockSpan hx, lt_cdiv_of_mem_blockSpan hy⟩

theorem State.pixel_aggregate (rep : List Colour → Colour) (s : State) (k : Nat) :
    (s.aggregate rep).pixel k =
      if k ∈ s.pixelBlock k ∧ k < s.maxPix then s.aggregatedPixel rep k else s.pixel k := by
  rw [State.aggregate_eq_aggregateBlocks, State.pixel_aggregateBlocks rep s.nodup_blockList]
  exact if_congr (and_iff_right_of_imp fun h => State.blockOf_mem_blockList h.1) rfl rfl

/-- Settles O36: both orders aggregate the pixels of the same blocks, and neither reaches a byte below FRAME. -/
theorem blockOrderIsFree : Obligations.BlockOrderIsFree := by
  intro rep s l hl a
  have hperm : l.Perm s.blockList := hl
  change (s.aggregateBlocks rep l).byteAt a = _
  rw [State.aggregate_eq_aggregateBlocks]
  refine State.byteAt_eq_of_pixel_eq (fun b hb => ?_) (fun k => ?_) a
  · rw [State.byteAt_aggregateBlocks_low rep _ s hb, State.byteAt_aggregateBlocks_low rep _ s hb]
  · rw [State.pixel_aggregateBlocks rep (hperm.nodup_iff.2 s.nodup_blockList),
      State.pixel_aggregateBlocks rep s.nodup_blockList]
    simp only [hperm.mem_iff]

end Sys2Proof.Machine
end

section
/-! PIXMEAN and PIXMODE at their completion: the result of every pixel, uniform blocks, and the bitmaps that they leave as
they are (43_downsampler.md R175, R177 to R179, R181). -/

namespace Sys2Proof.Machine

/-! ### The result -/

theorem State.pixel_aggregate_of_valid {s : State} (hv : s.validate = .none) (rep : List Colour → Colour) {k : Nat}
    (hk : k < s.imgW * s.imgH) : (s.aggregate rep).pixel k = s.aggregatedPixel rep k := by
  obtain ⟨hP, -, -, -, -, hfits⟩ := State.validate_none hv
  rw [State.pixel_aggregate, if_pos ⟨State.mem_pixelBlock hP hk, hk.trans_le hfits⟩]

theorem State.aggregatedPixel_pixelIndex (rep : List Colour → Colour) (s : State) {x : Nat} (hx : x < s.imgW)
    (y : Nat) : s.aggregatedPixel rep (s.pixelIndex x y) = downsampled rep s x y := by
  rw [State.aggregatedPixel, State.pixelBlock, State.blockOf, s.pixelIndex_mod hx, s.pixelIndex_div hx, downsampled,
    State.px]

/-- `t` is what the completion of a downsampling command with aggregator `rep` makes of `s`: every pixel takes the colour
of its block and keeps its alpha, and nothing else but PEND and DONE changes (43_downsampler.md R175, R177, R178). -/
def State.DownsampledTo (rep : List Colour → Colour) (s t : State) : Prop :=
  t = { s with mem := t.mem, pend := none, done := true } ∧
    (∀ x y, x < s.imgW → y < s.imgH →
      t.pixel (s.pixelIndex x y) = downsampled rep s x y ∧
      (t.px x y).extractLsb' 0 24 = rep (s.coloursAt (s.blockIndices (x / s.blockP) (y / s.blockP))) ∧
      (t.px x y).extractLsb' 24 8 = (s.px x y).extractLsb' 24 8) ∧
    ∀ a, ¬ s.inBitmap a → t.byteAt a = s.byteAt a

theorem State.downsampledTo_aggregate {s : State} (hv : s.validate = .none) (rep : List Colour → Colour) :
    s.DownsampledTo rep (s.aggregate rep).complete := by
  refine ⟨?_, fun x y hx hy => ?_, (State.ChangesOnlyBitmap.aggregate rep s).outside⟩
  · rw [s.aggregate_memOnly rep]
    rfl
  · have hpixel : (s.aggregate rep).complete.pixel (s.pixelIndex x y) = downsampled rep s x y :=
      (State.pixel_aggregate_of_valid hv rep (s.pixelIndex_lt hx hy)).trans (s.aggregatedPixel_pixelIndex rep hx y)
    have hindex : (s.aggregate rep).complete.pixelIndex x y = s.pixelIndex x y := by
      rw [s.aggregate_memOnly rep]
      rfl
    rw [State.px, hindex, hpixel]
    exact ⟨rfl, rgbOf_emit _ _, alphaOf_emit _ _⟩

/-- Settles O14: PIXMEAN is the loop over the blocks with the mean. -/
theorem pixmeanResult : Obligations.PixmeanResult :=
  fun _ hdue hv => ⟨_, exec_completion hdue, State.downsampledTo_aggregate hv meanColour⟩

/-- Settles O15: PIXMODE is the loop over the blocks with the mode. -/
theorem pixmodeResult : Obligations.PixmodeResult :=
  fun _ hdue hv => ⟨_, exec_completion hdue, State.downsampledTo_aggregate hv modeColour⟩

/-! ### Uniform blocks -/

/-- Any two pixels of one block have the same colour (43_downsampler.md R181). -/
def State.blocksUniform (s : State) : Prop :=
  ∀ bx bY k m, k ∈ s.blockIndices bx bY → m ∈ s.blockIndices bx bY → rgbOf (s.pixel k) = rgbOf (s.pixel m)

/-- Every pixel of a block takes the representative colour of the block. -/
theorem State.rgbOf_pixel_aggregate {s : State} (hv : s.validate = .none) (rep : List Colour → Colour)
    {bx bY k : Nat} (hk : k ∈ s.blockIndices bx bY) :
    rgbOf ((s.aggregate rep).pixel k) = rep (s.coloursAt (s.blockIndices bx bY)) := by
  rw [State.pixel_aggregate_of_valid hv rep (s.blockIndices_lt hk), State.aggregatedPixel, rgbOf_emit,
    State.pixelBlock_of_mem hk]

theorem State.blockIndices_aggregate (rep : List Colour → Colour) (s : State) (bx bY : Nat) :
    (s.aggregate rep).blockIndices bx bY = s.blockIndices bx bY := by
  rw [s.aggregate_memOnly rep]
  rfl

theorem State.blocksUniform_aggregate {s : State} (hv : s.validate = .none) (rep : List Colour → Colour) :
    (s.aggregate rep).blocksUniform := by
  intro bx bY k m hk hm
  rw [State.blockIndices_aggregate] at hk hm
  rw [State.rgbOf_pixel_aggregate hv rep hk, State.rgbOf_pixel_aggregate hv rep hm]

/-- With P = 1 a block has one pixel (43_downsampler.md R179). -/
theorem State.blocksUniform_of_blockP_one {s : State} (hP : s.blockP = 1) : s.blocksUniform := by
  intro bx bY k m hk hm
  have hblock := (State.blockOf_of_mem hk).trans (State.blockOf_of_mem hm).symm
  rw [State.blockOf, State.blockOf, hP, Nat.div_one, Nat.div_one, Nat.div_one, Nat.div_one] at hblock
  obtain ⟨hcol, hrow⟩ := Prod.mk.inj hblock
  rw [← Nat.div_add_mod' k s.imgW, hcol, hrow, Nat.div_add_mod' m s.imgW]

/-- An aggregator that keeps uniform blocks gives every pixel of one the colour it has. -/
theorem State.byteAt_aggregate_of_blocksUniform {rep : List Colour → Colour} (hrep : KeepsUniform rep) {s : State}
    (h : s.blocksUniform) (a : Nat) : (s.aggregate rep).byteAt a = s.byteAt a := by
  refine State.byteAt_eq_of_pixel_eq (fun b hb => ?_) (fun k => ?_) a
  · rw [State.aggregate_eq_aggregateBlocks, State.byteAt_aggregateBlocks_low rep _ s hb]
  · rw [State.pixel_aggregate]
    split
    · next hk =>
      have hown : rgbOf (s.pixel k) ∈ s.coloursAt (s.pixelBlock k) := List.mem_map_of_mem hk.1
      have hall : ∀ v ∈ s.coloursAt (s.pixelBlock k), v = rgbOf (s.pixel k) := fun v hv => by
        obtain ⟨m, hm, rfl⟩ := List.mem_map.1 hv
        exact h _ _ m k hm hk.1
      rw [State.aggregatedPixel, hrep _ _ (List.ne_nil_of_mem hown) hall, emit_rgbOf]
    · rfl

/-! ### Both commands -/

/-- The two downsampling commands are one loop with two aggregators, each of which keeps uniform blocks. -/
theorem processing_downsampler {i : Instr} (hi : i = .pixmean ∨ i = .pixmode) :
    ∃ rep, KeepsUniform rep ∧ processing i = State.aggregate rep := by
  obtain rfl | rfl := hi
  · exact ⟨meanColour, meanColour_keepsUniform, rfl⟩
  · exact ⟨modeColour, modeColour_keepsUniform, rfl⟩

/-- Settles O32: with P = 1 every block is uniform before the command. -/
theorem blockSizeOneIsIdentity : Obligations.BlockSizeOneIsIdentity := by
  intro i s hi hdue hblock
  obtain ⟨rep, hrep, hproc⟩ := processing_downsampler hi
  have hP : s.blockP = 1 := congrArg BitVec.toNat hblock
  refine ⟨_, exec_completion hdue, ?_⟩
  rw [hproc]
  exact State.byteAt_aggregate_of_blocksUniform hrep (State.blocksUniform_of_blockP_one hP)

/-- Settles O33: the blocks of the bitmap are the same after the command. -/
theorem blocksAreUniformAfterwards : Obligations.BlocksAreUniformAfterwards := by
  intro i s hi hdue hv
  obtain ⟨rep, -, hproc⟩ := processing_downsampler hi
  refine ⟨_, exec_completion hdue, fun bx bY k m hk hm => ?_⟩
  rw [hproc]
  rw [← State.blockIndices_aggregate rep] at hk hm
  exact State.blocksUniform_aggregate hv rep bx bY k m hk hm

/-- Settles O34: the first run leaves every block uniform, and the second changes no byte of such a bitmap. -/
theorem downsamplingAgainChangesNothing : Obligations.DownsamplingAgainChangesNothing := by
  intro i s hi hdue hv
  obtain ⟨rep, hrep, hproc⟩ := processing_downsampler hi
  obtain ⟨hturn, -⟩ := State.completionDue_iff.1 hdue
  have hturn' : (processing i s).engineDue = true := by
    rw [State.engineDue_congr (s := s) (by rw [processing_frame]), hturn]
  refine ⟨_, _, exec_completion hdue, exec_completion (State.completionDue_iff.2 ⟨hturn', rfl⟩), fun a => ?_⟩
  rw [hproc]
  exact State.byteAt_aggregate_of_blocksUniform (s := { (s.aggregate rep).complete with pend := some i }) hrep
    (State.blocksUniform_aggregate hv rep) a

/-- Settles O35: the mode of a block is the colour of one of its pixels. -/
theorem modeColourComesFromItsBlock : Obligations.ModeColourComesFromItsBlock := by
  intro s hdue hv
  refine ⟨_, exec_completion hdue, fun bx bY k hk => ?_⟩
  have hown : rgbOf (s.pixel k) ∈ s.coloursAt (s.blockIndices bx bY) := List.mem_map_of_mem hk
  obtain ⟨m, hm, hcolour⟩ := List.mem_map.1 (modeColour_mem (List.ne_nil_of_mem hown))
  exact ⟨m, hm, (State.rgbOf_pixel_aggregate hv modeColour hk).trans hcolour.symm⟩

end Sys2Proof.Machine
end

section
/-! A word that is no command: the decoder refuses it, and an idle block records ILLCMD without a look at its
configuration (60_exceptions.md R192). -/

namespace Sys2Proof.Machine

/-- The decoder refuses exactly the words outside the five. -/
theorem decode_error_iff {v : Word} : (∃ e, decode v = .error e) ↔ ∀ i, v ≠ encode i := by
  refine ⟨fun ⟨e, he⟩ i hv => ?_, fun hno => ?_⟩
  · cases he.symm.trans (decode_eq_ok_iff.2 hv)
  · obtain ⟨herr, -⟩ | ⟨herr, -⟩ | ⟨i, hv⟩ := decode_cases v
    · exact ⟨_, herr⟩
    · exact ⟨_, herr⟩
    · exact absurd hv (hno i)

/-- The offset 0x04 names CMD whatever the capacity, so what is due depends on the word alone. -/
theorem State.due_of_cmd_write {s : State} {v : Word} {rest : List Event}
    (hs : s.script = .write 0x0000004#25 v :: rest) : s.due = s.writeDue .cmd v := by
  unfold State.due
  rw [hs]
  rfl

theorem State.writeDue_cmd_of_error {s : State} {v : Word} {e : DecodeError} (hv : decode v = .error e) :
    s.writeDue .cmd v = .settle s.issueIllegal := by
  rw [State.writeDue, if_pos rfl, hv]

theorem State.issueIllegal_idle {s : State} (hp : s.pend = none) : s.issueIllegal = s.reject .illCmd := by
  obtain ⟨hb, -⟩ | ⟨-, he⟩ := s.issueIllegal_cases
  · exact absurd hp (State.busy_iff.1 hb)
  · exact he

/-- Settles O9: the word decodes to an error, and only a busy block would drop its write instead of rejecting it. -/
theorem illegalWordRejected : Obligations.IllegalWordRejected := by
  intro s v rest hs hp hno
  obtain ⟨e, hv⟩ := decode_error_iff.2 hno
  have hdue : s.due = .settle (s.reject .illCmd) := by
    rw [State.due_of_cmd_write hs, State.writeDue_cmd_of_error hv, State.issueIllegal_idle hp]
  rw [step_settle hdue, State.advance, State.reject_script, hs]
  rfl

end Sys2Proof.Machine
end

section
/-! The capacity's range, which the type of `Config.maxPixLessOne` gives (00_scope.md R5). -/

namespace Sys2Proof

theorem Config.one_le_maxPix : 1 ≤ Config.maxPix := Nat.le_add_left 1 _

theorem Config.maxPix_le : Config.maxPix ≤ 2 ^ 22 := Config.maxPixLessOne.isLt

end Sys2Proof
end

section
/-! The reset state and the reset event: registers, memory, invariants, and the command that comes first
(70_reset_and_hazards.md R220 to R223). -/

namespace Sys2Proof.Machine

/-! ### The reset state -/

theorem State.statusWord_reset : State.reset.statusWord = 0#32 := rfl

theorem State.irqEnWord_reset : State.reset.irqEnWord = 0#32 := rfl

/-- CAP's 23 bits hold every capacity the spec allows, so the capacity is not cut. -/
theorem State.maxPix_reset : State.reset.maxPix = Config.maxPix := by
  have hfits : Config.maxPix < 2 ^ 23 := Config.maxPix_le.trans_lt (by decide)
  exact (BitVec.toNat_ofNat _ _).trans (Nat.mod_eq_of_lt hfits)

/-- BLOCK and PALSIZE come up valid and WIDTH comes up 0, so DIM is the first fault found (60_exceptions.md R195). -/
theorem State.validate_reset : State.reset.validate = .dim := by
  have hblock : State.reset.blockP ≠ 0 := by decide
  have hpal : ¬ (State.reset.palK < 4 ∨ 256 < State.reset.palK) := by decide
  have hdim : State.reset.imgW = 0 := rfl
  rw [State.validate, if_neg hblock, if_neg hpal, if_pos (.inl hdim)]

theorem State.inv_reset : State.reset.Inv where
  cap := by
    unfold State.capLegal
    rw [State.maxPix_reset]
    exact ⟨Config.one_le_maxPix, Config.maxPix_le⟩
  mem := ⟨State.reset_mem_wf, nofun⟩
  err := ⟨fun _ => rfl, fun _ => rfl⟩
  pend := State.pendLegal_of_idle rfl

/-- Settles O49: every register has its value by the definition of the reset state, but CAP, whose capacity must fit. -/
theorem resetRegisterValues : Obligations.ResetRegisterValues :=
  ⟨State.statusWord_reset, State.irqEnWord_reset, rfl, rfl, rfl, rfl, rfl, rfl, State.maxPix_reset⟩

/-- Settles O51: the rejection of a command under an invalid configuration, at the code that reset's has. -/
theorem firstCommandAfterResetIsRejectedDim : Obligations.FirstCommandAfterResetIsRejectedDim := by
  intro i hi
  have hfails : State.reset.validate ≠ .none := by rw [State.validate_reset]; decide
  rw [invalidConfigurationRejected i State.reset rfl hi hfails, State.validate_reset]

/-- Settles O54: the invariant clause by clause; there are no accumulators yet. -/
theorem invariantHoldsAtReset : Obligations.InvariantHoldsAtReset :=
  ⟨State.inv_reset, nofun⟩

/-! ### The reset event -/

theorem State.due_of_reset {s : State} {rest : List Event} (hs : s.script = .reset :: rest) :
    s.due = .settle s.resetEvent := by
  unfold State.due
  rw [hs]

@[simp] theorem State.resetEvent_statusWord (s : State) : s.resetEvent.statusWord = 0#32 :=
  (rfl : s.resetEvent.statusWord = State.reset.statusWord).trans State.statusWord_reset

@[simp] theorem State.resetEvent_irqEnWord (s : State) : s.resetEvent.irqEnWord = 0#32 :=
  (rfl : s.resetEvent.irqEnWord = State.reset.irqEnWord).trans State.irqEnWord_reset

@[simp] theorem State.resetEvent_irq (s : State) : s.resetEvent.irq = false := rfl

/-- No byte is listed after a reset, so all storage reads as that reset's draw (assumption log 3). -/
theorem State.byteAt_resetEvent {s : State} {a : Nat} (ha : holdsByte s.maxPix a = true) :
    s.resetEvent.byteAt a = Config.resetByte (s.resets + 1) a :=
  if_pos ha

/-- Settles O50: the reset event is due whatever is pending, and moving the schedule on keeps what it leaves. -/
theorem resetEventRestoresResetState : Obligations.ResetEventRestoresResetState := by
  intro s rest hs
  exact ⟨s.resetEvent.advance, step_settle (State.due_of_reset hs), s.resetEvent_statusWord, s.resetEvent_irqEnWord,
    s.resetEvent_width, s.resetEvent_height, s.resetEvent_block, s.resetEvent_palSize, s.resetEvent_pend,
    s.resetEvent_irq, s.resetEvent_cap, congrArg List.tail hs, fun _ ha => State.byteAt_resetEvent ha⟩

end Sys2Proof.Machine
end

section
/-! The idle block, and the end of a run: one step without a host transaction leaves nothing pending, so every aligned
schedule comes to its end (70_reset_and_hazards.md R223, R239; 40_command_issue.md R115). -/

namespace Sys2Proof.Machine

/-! ### The engine's turn -/

theorem State.due_of_idle_turn {s : State} (hp : s.pend = none)
    (hs : s.script = [] ∨ ∃ rest, s.script = .engine :: rest) : s.due = .settle s := by
  unfold State.due
  obtain hs | ⟨rest, hs⟩ := hs <;> rw [hs, hp]

theorem State.engineDue_of_turn {s : State} (hs : s.script = [] ∨ ∃ rest, s.script = .engine :: rest) :
    s.engineDue = true := by
  unfold State.engineDue
  obtain hs | ⟨rest, hs⟩ := hs <;> rw [hs]

theorem State.advance_of_script_nil {s : State} (hs : s.script = []) : s.advance = s := by
  rw [State.advance, hs, List.tail_nil, ← hs]

/-- Settles O52: with nothing pending the engine's turn asks for nothing, and only the schedule can move on. -/
theorem idleBlockStaysIdle : Obligations.IdleBlockStaysIdle := by
  refine fun s hp => ⟨fun hs => ?_, fun rest hs => ?_⟩
  · rw [step_settle (State.due_of_idle_turn hp (.inl hs)), State.advance_of_script_nil hs]
  · rw [step_settle (State.due_of_idle_turn hp (.inr ⟨rest, hs⟩)), State.advance, hs, List.tail_cons]

/-- The engine's turn completes what is pending, and leaves an idle block idle. -/
theorem step_of_turn {s : State} (hs : s.script = [] ∨ ∃ rest, s.script = .engine :: rest) :
    ∃ t, step s = .next t ∧ t.pend = none := by
  cases hp : s.pend with
  | none => exact ⟨s.advance, step_settle (State.due_of_idle_turn hp hs), hp⟩
  | some i =>
    refine ⟨(processing i s).complete.advance, ?_, rfl⟩
    rw [step_run (State.due_of_engine_turn hp hs),
      exec_completion (State.completionDue_iff.2 ⟨State.engineDue_of_turn hs, hp⟩)]
    rfl

/-! ### A schedule without host transactions -/

theorem noTransaction_iff {l : List Event} :
    (∀ e ∈ l, e.isTransaction = false) ↔ (∀ a v, Event.write a v ∉ l) ∧ ∀ a, Event.read a ∉ l := by
  constructor
  · intro h
    exact ⟨fun a v hmem => (nomatch h (.write a v) hmem), fun a hmem => (nomatch h (.read a) hmem)⟩
  · rintro ⟨hwrite, hread⟩ e he
    cases e with
    | write a v => exact absurd he (hwrite a v)
    | read a => exact absurd he (hread a)
    | engine => rfl
    | reset => rfl

/-- What is due on a schedule without host transactions is the engine's turn or a reset. -/
theorem turn_or_reset_of_noTransaction {l : List Event} (h : ∀ e ∈ l, e.isTransaction = false) :
    (l = [] ∨ ∃ rest, l = .engine :: rest) ∨ ∃ rest, l = .reset :: rest := by
  cases l with
  | nil => exact .inl (.inl rfl)
  | cons e rest =>
    cases e with
    | write a v => cases h (.write a v) List.mem_cons_self
    | read a => cases h (.read a) List.mem_cons_self
    | engine => exact .inl (.inr ⟨rest, rfl⟩)
    | reset => exact .inr ⟨rest, rfl⟩

/-- A step takes one event off the schedule and puts none on it. -/
theorem step_script {s t : State} (ht : step s = .next t) : t.script = s.script.tail := by
  obtain ⟨u, hu, hscript⟩ | ⟨hrefused, -⟩ := step_cases s
  · cases ht.symm.trans hu
    exact hscript
  · cases ht.symm.trans hrefused

/-- With no host transaction left, one step ends the run, whether or not a command is pending. -/
theorem step_runOver {s : State} (h : ∀ e ∈ s.script, e.isTransaction = false) :
    ∃ t, step s = .next t ∧ t.runOver = true := by
  have hidle : ∃ t, step s = .next t ∧ t.pend = none := by
    obtain hturn | ⟨rest, hreset⟩ := turn_or_reset_of_noTransaction h
    · exact step_of_turn hturn
    · exact ⟨s.resetEvent.advance, step_settle (State.due_of_reset hreset), rfl⟩
  obtain ⟨t, ht, hp⟩ := hidle
  exact ⟨t, ht, State.runOver_iff.2 ⟨fun e he => h e (List.mem_of_mem_tail (step_script ht ▸ he)), hp⟩⟩

/-! ### The whole run -/

/-- One step for each event of the schedule, and one more for a command that the last of them left pending. -/
theorem aligned_run_ends {s : State} {l : List Event} (hl : s.script = l) (hal : s.alignedScript) :
    ∃ t, runFor (l.length + 1) s = .next t ∧ t.runOver = true := by
  induction l generalizing s with
  | nil =>
    obtain ⟨t, ht, hover⟩ := step_runOver (s := s) (by rw [hl]; nofun)
    exact ⟨t, runFor_succ ht 0, hover⟩
  | cons e rest ih =>
    obtain ⟨u, hu, hal'⟩ := step_of_alignedScript hal
    obtain ⟨t, ht, hover⟩ := ih (by rw [step_script hu, hl, List.tail_cons]) hal'
    exact ⟨t, (runFor_succ hu _).trans ht, hover⟩

/-- Settles O59: the end read off the definition of a run that is over, one step that keeps it over, and the run through
the schedule. -/
theorem everyAlignedRunComesToItsEnd : Obligations.EveryAlignedRunComesToItsEnd := by
  refine ⟨fun s => ?_, fun s hover => ?_, fun s hal => aligned_run_ends rfl hal⟩
  · rw [State.runOver_iff, noTransaction_iff, and_assoc]
  · obtain ⟨hquiet, -⟩ := State.runOver_iff.1 hover
    exact step_runOver hquiet

end Sys2Proof.Machine
end
